-- ==== Sys2Proof/Word.lean ====
section
/-! DEFINITION. The word types of the WZ412 model and the plainest arithmetic on counts. -/

namespace Sys2Proof

/-- One byte of a frame, of the profile image or of a streamed record. -/
abbrev Byte := BitVec 8

/-- A timer of the part: `none` while it is stopped, otherwise the moment (in microseconds of the
model's own clock) at which it runs out. -/
abbrev Timer := Option Nat

/-- The ceiling of a usage counter (introduction, section 5.3): the largest 32-bit value. -/
def ceiling : Nat := 4294967295

/-- The largest value of the 16-bit health, refusal, overrun, failure and bus-off counts. -/
def ceiling16 : Nat := 65535

/-- The largest value of the 64-bit part millisecond time (R187). -/
def ceiling64 : Nat := 18446744073709551615

/-- `a + n` stopping at `cap`; a value already at or above `cap` stays where it is. -/
def capAdd (cap a n : Nat) : Nat := max a (min cap (a + n))

/-- A value clamped into the range `lo` to `hi` (the nearer end where it lies outside). -/
def clampNat (lo hi v : Nat) : Nat := max lo (min hi v)

/-- The signed form of `clampNat`. -/
def clampInt (lo hi v : Int) : Int := max lo (min hi v)

end Sys2Proof
end

