-- ==== Sys2Proof/Syntax.lean ====
section
/-! DEFINITION. The commands of the WZ412: one constructor per row of spec/opcode_table.json, with the
names of the signals, lines and frames that their operands use. -/

namespace Sys2Proof

/-- The eleven signals of the signal board, in the order of their codes (introduction, section 4). -/
inductive Signal where
  | engineSpeed | engineTorque | coolant | inputShaftSpeed | gear | vehicleSpeed
  | clutchEngagement | crank | ignition | gridSelect | calendar
  deriving DecidableEq, Repr

/-- The two origins of a signal slot (R1, R14). -/
inductive Rank where
  | primary | alternate
  deriving DecidableEq, Repr

/-- The four sense lines (section 2.1). -/
inductive SenseLine where
  | ignition | crank | clutchPedal | powerWarning
  deriving DecidableEq, Repr

/-- The two lines of the shaft sensor (section 2.4). -/
inductive ShaftLine where
  | a | b
  deriving DecidableEq, Repr

/-- The three pulse sources of the notice arbiter, sources 3, 4 and 5 (R138). -/
inductive PulseSource where
  | misuseReverse | shaftReversal | drivelineShock
  deriving DecidableEq, Repr

/-- A CAN frame of another station as the link unit sees it at its end: identifier format, remote bit,
identifier (11-bit identifiers stand in the low eleven positions), data length and data bytes. -/
structure Frame where
  extended : Bool
  remote   : Bool
  ident    : BitVec 29
  length   : Nat
  data     : List Byte
  deriving DecidableEq, Repr

/-- How the configuration memory answers the profile read of R184: for the address bytes in the order in which
they come, whether the memory acknowledges them (those beyond the list it does), the time the read takes, how many
of its events are on the line when 100 ms are over (for a longer read), and the bytes the memory holds from word
address 0. -/
structure MemoryAnswer where
  acks     : List Bool
  readMs   : Nat
  progress : Nat
  image    : List Byte
  deriving DecidableEq, Repr

/-- The commands: one constructor per row of spec/opcode_table.json.  `dt` is the time, in
microseconds, that passes before the event.  An event at which one of the part's own timers runs
out has no `dt`: its moment is the one the timer holds. -/
inductive Instr where
  | startUp (dt : Nat)
  | startingEnd (dt : Nat) (mem : MemoryAnswer)
  | busJoin (dt : Nat)
  | frameReceived (dt : Nat) (f : Frame)
  | receiveError (dt : Nat) (dominantAfterFlag : Bool)
  | decodeComplete (dt : Nat)
  | freshnessExpiry (sig : Signal) (rank : Rank)
  | slotHoldExpiry (sig : Signal)
  | lineChange (dt : Nat) (line : SenseLine) (high : Bool)
  | lineQualified (line : SenseLine)
  | shaftEdgeCandidate (dt : Nat) (line : ShaftLine) (high : Bool)
  | shaftEdgeAccepted (line : ShaftLine)
  | speedTimeout
  | shockHoldoffExpiry
  | tallyTick
  | passComplete (dt : Nat)
  | stepComplete (dt : Nat)
  | longCrankExpiry
  | wakeByBus (dt : Nat)
  | parkTimerExpiry
  | partSecondsTick
  | checkpointSnapshot (dt : Nat)
  | checkpointWriteDone (dt : Nat) (verified : Bool)
  | hireRecordWriteDone (dt : Nat) (verified : Bool)
  | journalEntryWriteDone (dt : Nat) (verified : Bool)
  | streamItemRead (dt : Nat) (verified : Bool)
  | status (dt : Nat)
  | readCounter (dt : Nat)
  | readSource (dt : Nat)
  | readJournal (dt : Nat)
  | readHire (dt : Nat)
  | serviceDone (dt : Nat)
  | abortStream (dt : Nat)
  | restart (dt : Nat)
  | unknownRequest (dt : Nat)
  | checkOut (dt : Nat)
  | checkIn (dt : Nat)
  | hireControlUnknown (dt : Nat)
  | hold (dt : Nat)
  | holdExpiry
  | summaryPageRequest (dt : Nat)
  | pageTimerExpiry
  | streamGapExpiry
  | transmitSuccess (dt : Nat)
  | lostArbitration (dt : Nat)
  | transmitError (dt : Nat) (onlyMissingAck : Bool)
  | busOffRecovery (dt : Nat)
  | pulseTimerExpiry (src : PulseSource)
  | dwellExpiry
  | noticeRepeatExpiry
  | restartWaitTimeout
  | supplyLoss (dt : Nat)
  | recoveryCountRun (dt : Nat)
  | shortFrameDiscard (dt : Nat)
  deriving DecidableEq, Repr

/-- The signal code of the introduction's section 4. -/
def Signal.code : Signal → Fin 11
  | .engineSpeed => 0 | .engineTorque => 1 | .coolant => 2 | .inputShaftSpeed => 3 | .gear => 4
  | .vehicleSpeed => 5 | .clutchEngagement => 6 | .crank => 7 | .ignition => 8 | .gridSelect => 9
  | .calendar => 10

/-- The signal of a code, for the codes 0 to 10. -/
def Signal.ofCode : Nat → Option Signal
  | 0 => some .engineSpeed | 1 => some .engineTorque | 2 => some .coolant
  | 3 => some .inputShaftSpeed | 4 => some .gear | 5 => some .vehicleSpeed
  | 6 => some .clutchEngagement | 7 => some .crank | 8 => some .ignition
  | 9 => some .gridSelect | 10 => some .calendar | _ => none

/-- The eleven signals in code order. -/
def Signal.all : List Signal :=
  [.engineSpeed, .engineTorque, .coolant, .inputShaftSpeed, .gear, .vehicleSpeed,
   .clutchEngagement, .crank, .ignition, .gridSelect, .calendar]

end Sys2Proof
end

