-- ==== Sys2Proof/Decode.lean ====
section
/-! DEFINITION. Commands spelled by words.  spec/opcode_table.json gives no row any bits ("fields" is
empty in all 54 rows and no row has "fixed"), so no word spells a command. -/

namespace Sys2Proof

/-- The command that a word spells by the table's bits: none, since the table gives no row bits.
DESIGN CHOICE: log entry 35. -/
def decodeTableWord (_nbits _w : Nat) : Option Instr := none

end Sys2Proof
end

