-- ==== Sys2Proof/Config.lean ====
section
/-! DEFINITION. What the manual fixes for every part (times and limits), and the one free value:
the bits of a sent frame to which the manual gives no content. -/

namespace Sys2Proof.Config

/-- FREE VALUE (log entry 1): the content of the bits of a sent frame that the layouts of chapter 13
leave unassigned.  The first argument is the state's counter `free`, the second names the place.
It has no body: nothing can be proved of its value. -/
opaque unstatedByte : Nat → Nat → Byte

/-- One tally interval, 100 ms (R42). -/
def tallyIntervalUs : Nat := 100000

/-- The hold limit of a slot, 2.0 s (R19). -/
def slotHoldUs : Nat := 2000000

/-- The edge filter of the shaft lines, 20 µs (R32). -/
def edgeFilterUs : Nat := 20

/-- The speed timeout, 2 s (R35). -/
def speedTimeoutUs : Nat := 2000000

/-- The shock hold-off, 500 ms (R37). -/
def shockHoldoffUs : Nat := 500000

/-- The pulse time of a pulse source, 10 s (R141). -/
def pulseUs : Nat := 10000000

/-- The dwell of a presented notice, 8 s (R143). -/
def dwellUs : Nat := 8000000

/-- The NOTICE repeat time with a notice presented, 1 s (R148). -/
def repeatShownUs : Nat := 1000000

/-- The NOTICE repeat time with none presented, 10 s (R148). -/
def repeatIdleUs : Nat := 10000000

/-- The park time, 60 s (R180). -/
def parkUs : Nat := 60000000

/-- The longest wait for the RESTART answer, 200 ms (R186). -/
def restartWaitUs : Nat := 200000

/-- The least gap between STREAM frames with the pacing counter at 0, 2 ms (R159). -/
def gapUs : Nat := 2000

/-- The least gap between STREAM frames with the pacing counter above 0, 10 ms (R159). -/
def pacedGapUs : Nat := 10000

/-- Places of the intake (R6). -/
def intakePlaces : Nat := 24

/-- Places of the ANSWER queue (R158). -/
def answerPlaces : Nat := 4

/-- Places of the staging list (R111). -/
def stagingPlaces : Nat := 8

/-- The value the pacing counter is loaded with (R160). -/
def pacingLoad : Nat := 16

/-- One clutch work unit in Nm·rpm·tally-intervals (introduction, section 5.4). -/
def clutchWorkUnit : Nat := 95493

/-- Nm·rpm in one kW of slip power (R64). -/
def slipPowerUnit : Nat := 9549

/-- Decimetres per second and tally interval in a metre: V/360 m are covered in one pass (R73). -/
def distanceUnit : Nat := 360

end Sys2Proof.Config
end

