-- ==== Sys2Proof/Machine/Operands.lean ====
section
/-! DEFINITION. Byte order, signed fields, bit fields and check codes (introduction, sections 5.5 and
5.6): the operand forms of received frames, sent frames and the profile image. -/

namespace Sys2Proof.Machine

/-- Byte `i` of a list, 0 beyond its end. -/
def byteAt (l : List Byte) (i : Nat) : Nat := (l.getD i 0).toNat

/-- Byte `i` of the configuration memory: an address beyond the bytes given reads 0xFF.
PRESUMED: log entry 12. -/
def memoryByteAt (l : List Byte) (i : Nat) : Nat := (l.getD i 0xFF#8).toNat

/-- The value of bytes given least significant first (section 5.5). -/
def fromLittle : List Nat → Nat
  | [] => 0
  | b :: bs => b + 256 * fromLittle bs

/-- The `n` byte values from index `i`. -/
def bytesFrom (l : List Byte) (i n : Nat) : List Nat := (List.range n).map fun k => byteAt l (i + k)

/-- A little-endian field of `n` bytes at index `i` (R188). -/
def littleAt (l : List Byte) (i n : Nat) : Nat := fromLittle (bytesFrom l i n)

/-- A number as `n` bytes, least significant first; what does not fit is cut off. -/
def toLittle : Nat → Nat → List Byte
  | 0, _ => []
  | n + 1, v => BitVec.ofNat 8 v :: toLittle n (v / 256)

/-- A signed number as four bytes, least significant first, in two's complement. -/
def toLittleSigned32 (v : Int) : List Byte := toLittle 4 (v % 4294967296).toNat

/-- The two's complement reading of the low `bits` bits of a number. -/
def signedOf (bits v : Nat) : Int :=
  if v % 2 ^ bits < 2 ^ (bits - 1) then (v % 2 ^ bits : Nat) else (v % 2 ^ bits : Nat) - (2 ^ bits : Nat)

/-- `width` bits of a number from bit `low`. -/
def bitsOf (v low width : Nat) : Nat := v / 2 ^ low % 2 ^ width

/-- Bit `i` of a number. -/
def bitOf (v i : Nat) : Bool := v / 2 ^ i % 2 == 1

/-- A flag as the number `2 ^ i` where it is set. -/
def flagAt (b : Bool) (i : Nat) : Nat := if b then 2 ^ i else 0

/-- One bit through the 16-bit check code register, shifted left, generator 0x1021 (section 5.6). -/
def checkCode16Bit (reg : BitVec 16) (bit : Bool) : BitVec 16 :=
  if reg.msb != bit then (reg <<< 1) ^^^ 0x1021#16 else reg <<< 1

/-- One byte through the 16-bit register, most significant bit first. -/
def checkCode16Byte (reg : BitVec 16) (b : Byte) : BitVec 16 :=
  [7, 6, 5, 4, 3, 2, 1, 0].foldl (fun r i => checkCode16Bit r (b.getLsbD i)) reg

/-- The 16-bit check code of the profile image (section 5.6). -/
def checkCode16 (bytes : List Byte) : BitVec 16 := bytes.foldl checkCode16Byte 0xFFFF#16

/-- One bit through the 32-bit check code register, shifted right (section 5.6). -/
def checkCode32Bit (reg : BitVec 32) (bit : Bool) : BitVec 32 :=
  if reg.getLsbD 0 != bit then (reg >>> 1) ^^^ 0xEDB88320#32 else reg >>> 1

/-- One byte through the 32-bit register, least significant bit first. -/
def checkCode32Byte (reg : BitVec 32) (b : Byte) : BitVec 32 :=
  [0, 1, 2, 3, 4, 5, 6, 7].foldl (fun r i => checkCode32Bit r (b.getLsbD i)) reg

/-- The 32-bit check code of a retained record (section 5.6): the register with every bit inverted.
DESIGN CHOICE: log entry 26. -/
def checkCode32 (bytes : List Byte) : BitVec 32 := ~~~ (bytes.foldl checkCode32Byte 0xFFFFFFFF#32)

/-- A byte of `assigned` bits whose other bits are left open by the layout: the bits of `mask` (which
the manual assigns) are `v`'s, the others are the free value at `place` (log entry 1). -/
def openByte (free place mask v : Nat) : Byte :=
  (BitVec.ofNat 8 v &&& BitVec.ofNat 8 mask)
    ||| (Config.unstatedByte free place &&& ~~~ (BitVec.ofNat 8 mask))

/-- `n` bytes to which the layout gives no content (log entry 1). -/
def openBytes (free place n : Nat) : List Byte :=
  (List.range n).map fun k => Config.unstatedByte free (place + k)

end Sys2Proof.Machine
end

