-- ==== Sys2Proof/Machine/ConfigMemory.lean ====
section
/-! DEFINITION. The configuration memory on the I2C line (R184): the part's addressed reads, what goes over the
line in them, and the image that they bring. -/

namespace Sys2Proof.Machine

/-- One event on the I2C line: a condition that the part makes, a byte that it sends with the memory's
acknowledgement, or a byte that it receives with its own. -/
inductive I2cEvent where
  | start | repeatedStart | stop
  | sent (b : Byte) (acknowledged : Bool)
  | received (b : Byte) (acknowledged : Bool)
  deriving DecidableEq, Repr

/-! ## Addresses -/

/-- The memory's 7-bit device address (R184). -/
def memoryDevice : BitVec 7 := 0x50#7

/-- The address byte: the device address, then the direction bit, 1 for a read. PRESUMED: log entry 57. -/
def addressByte (reading : Bool) : Byte := memoryDevice ++ BitVec.ofBool reading

/-- A 16-bit word address, most significant byte first (R184). -/
def wordAddressBytes (a : Nat) : List Byte := [BitVec.ofNat 8 (a / 256), BitVec.ofNat 8 a]

/-- The word address that the memory takes from the bytes sent to it. -/
def wordAddressOf : List Byte → Nat
  | high :: low :: _ => 256 * high.toNat + low.toNat
  | _ => 0

/-- The `n` bytes that the memory gives in a sequential read, from the word address sent to it on. -/
def memoryGives (mem sentBytes : List Byte) (n : Nat) : List Byte :=
  (List.range n).map fun i => BitVec.ofNat 8 (memoryByteAt mem (wordAddressOf sentBytes + i))

/-! ## One read -/

/-- The bytes of a sequential read; the part acknowledges each but the last. PRESUMED: log entry 57. -/
def sequentialRead : List Byte → List I2cEvent
  | [] => []
  | [b] => [.received b false]
  | b :: l => .received b true :: sequentialRead l

/-- The word address is written, and the direction turned by a repeated start (R184). -/
def addressedTo (a : Nat) (answered : Bool) : List I2cEvent :=
  [.start, .sent (addressByte false) true] ++ (wordAddressBytes a).map (.sent · true)
    ++ [.repeatedStart, .sent (addressByte true) answered]

/-- What one read leaves: the events on the line, the bytes read, `none` where the memory does not answer, and
the acknowledgements that are left for the next read. -/
structure MemoryRead where
  line  : List I2cEvent
  bytes : Option (List Byte)
  acks  : List Bool
  deriving DecidableEq, Repr

/-- A read of `n` bytes from word address `a` with the attempts left to it (R184): an attempt at which the
memory leaves its address unacknowledged is made again. DEDUCED: log entry 60. -/
def readMemory (mem : List Byte) (a n : Nat) : Nat → List Bool → MemoryRead
  | 0, acks => { line := [], bytes := none, acks := acks }
  | tries + 1, acks =>
    match acks with
    | false :: rest =>
      let r := readMemory mem a n tries rest
      { r with line := [.start, .sent (addressByte false) false, .stop] ++ r.line }
    | true :: false :: rest =>
      let r := readMemory mem a n tries rest
      { r with line := addressedTo a false ++ [.stop] ++ r.line }
    | _ =>
      let bytes := memoryGives mem (wordAddressBytes a) n
      { line := addressedTo a true ++ sequentialRead bytes ++ [.stop], bytes := some bytes
        acks := acks.drop 2 }

/-! ## The read of the image -/

/-- The image length L of the header (section 13.4). -/
def imageLength (mem : List Byte) : Nat := memoryByteAt mem 1 + 256 * memoryByteAt mem 2

/-- What the read of the image leaves: the events on the line, and the image, `none` where the memory does not
answer. -/
structure ProfileRead where
  line  : List I2cEvent
  image : Option (List Byte)
  deriving DecidableEq, Repr

/-- The two reads of the image (R184): the three bytes of the header from word address 0, then the rest up to
the length that the header gives. DEDUCED: log entry 60. -/
def readImage (m : MemoryAnswer) : ProfileRead :=
  let header := readMemory m.image 0 3 3 m.acks
  match header.bytes with
  | none => { line := header.line, image := none }
  | some h =>
    if imageLength h ≤ 3 then { line := header.line, image := some h }
    else
      let rest := readMemory m.image 3 (imageLength h - 3) 3 header.acks
      { line := header.line ++ rest.line, image := rest.bytes.map (h ++ ·) }

/-- The profile read (R184): one that has not completed within 100 ms is broken off.
DESIGN CHOICE: log entry 61. -/
def readProfile (m : MemoryAnswer) : ProfileRead :=
  if 100 < m.readMs then { line := (readImage m).line.take m.progress, image := none } else readImage m

end Sys2Proof.Machine
end

