-- ==== Sys2Proof/Machine/Profile.lean ====
section
/-! DEFINITION. The profile: its fields (R2, R190, section 13.4), the FALLBACK profile (R184), the
reading of the image and the profile check of R185. -/

namespace Sys2Proof.Machine

/-- The kind of an origin (R14). -/
inductive OriginKind where
  | none | bus | line | shaft
  deriving DecidableEq, Repr

/-- The two origin kinds of one slot. -/
structure OriginPair where
  primary   : OriginKind
  alternate : OriginKind
  deriving DecidableEq, Repr

/-- The settings of one sense line (R25); the debounce time stands as its code. -/
structure LineSetting where
  wired        : Bool
  activeHigh   : Bool
  debounceCode : Nat
  deriving DecidableEq, Repr

/-- One source table entry (R2). -/
structure SourceEntry where
  valid      : Bool
  reject     : Bool
  extended   : Bool
  alternate  : Bool
  bigEndian  : Bool
  high       : Bool
  ident      : BitVec 32
  mask       : BitVec 32
  signalCode : Nat
  fieldType  : Nat
  bitNumber  : Nat
  startByte  : Nat
  shift      : Nat
  multiplier : Nat
  offset     : Int
  staleness  : Nat
  deriving DecidableEq, Repr

/-- The profile (section 13.4), before or after its check. -/
structure Profile where
  base            : BitVec 32
  bitRateCode     : Nat
  unitSerial      : Nat
  intakeReserve   : Nat
  summaryPeriod   : Nat
  ignitionLine    : LineSetting
  crankLine       : LineSetting
  clutchLine      : LineSetting
  warningLine     : LineSetting
  teeth           : Nat
  encodingCode    : Nat
  invert          : Bool
  shockRatio      : Nat
  speedFactor     : Nat
  reversalRpm     : Nat
  origins         : Vector OriginPair 11
  runThreshold    : Nat
  coldLimit       : Int
  longCrankLimit  : Nat
  coldCharge      : Nat
  idleCeiling     : Nat
  overspeedLimit  : Nat
  hotLimit        : Nat
  reversalSpeed   : Nat
  fallbackWeight  : Nat
  speedBounds     : Vector Nat 4
  loadBounds      : Vector Nat 3
  gridA           : Vector Nat 20
  gridB           : Vector Nat 20
  limits          : Vector Nat 5
  levels          : Vector Nat 14
  maskLevel       : Nat
  lampLevel       : Nat
  entries         : Vector SourceEntry 16
  deriving DecidableEq, Repr

/-- The profile state (R179). -/
inductive ProfileState where
  | good | adjusted | fallback
  deriving DecidableEq, Repr

/-- An entry that is not valid; its other fields are never used. -/
def emptyEntry : SourceEntry :=
  { valid := false, reject := false, extended := false, alternate := false, bigEndian := false,
    high := false, ident := 0, mask := 0, signalCode := 0, fieldType := 0, bitNumber := 0,
    startByte := 0, shift := 0, multiplier := 1, offset := 0, staleness := 1 }

/-- The default notice levels (R142), source 0 first. -/
def defaultLevels : Vector Nat 14 := #v[6, 5, 3, 6, 6, 5, 4, 4, 4, 2, 2, 2, 2, 2]

/-- The FALLBACK profile (R184). -/
def fallbackProfile : Profile :=
  { base := 0x1C5D4000#32, bitRateCode := 0, unitSerial := 0, intakeReserve := 6, summaryPeriod := 16
    ignitionLine := { wired := true, activeHigh := true, debounceCode := 1 }
    crankLine := { wired := true, activeHigh := true, debounceCode := 1 }
    clutchLine := { wired := false, activeHigh := true, debounceCode := 1 }
    warningLine := { wired := true, activeHigh := true, debounceCode := 0 }
    teeth := 0, encodingCode := 0, invert := false, shockRatio := 0, speedFactor := 1
    reversalRpm := 200
    origins := ((Vector.replicate 11 { primary := .none, alternate := .none }).set 7
      { primary := .line, alternate := .none }).set 8 { primary := .line, alternate := .none }
    runThreshold := 350, coldLimit := 10, longCrankLimit := 15, coldCharge := 3000
    idleCeiling := 900, overspeedLimit := 2700, hotLimit := 40, reversalSpeed := 30
    fallbackWeight := 100
    speedBounds := #v[900, 1400, 1900, 2400], loadBounds := #v[300, 900, 1500]
    gridA := Vector.replicate 20 100, gridB := Vector.replicate 20 100
    limits := Vector.replicate 5 0, levels := defaultLevels, maskLevel := 0, lampLevel := 4
    entries := Vector.replicate 16 emptyEntry }

/-! ## Reading the image (R184, R190, section 13.4) -/

/-- The first `n` bytes of the configuration memory. -/
def imageBytes (mem : List Byte) (n : Nat) : List Byte :=
  (List.range n).map fun i => BitVec.ofNat 8 (memoryByteAt mem i)

/-- The causes that R184 finds in the image read: length, check code, format version. -/
def imageFault (img : List Byte) : Option Nat :=
  if imageLength img < 5 ∨ 512 < imageLength img then some 2
  else if (checkCode16 (imageBytes img (imageLength img - 2))).toNat
      ≠ memoryByteAt img (imageLength img - 2) + 256 * memoryByteAt img (imageLength img - 1) then some 2
  else if memoryByteAt img 0 ≠ 1 then some 3
  else none

/-- The causes of R184: the first finding decides, `none` where there is no finding. -/
def imageFinding (m : MemoryAnswer) : Option Nat :=
  match (readProfile m).image with
  | none => some 1
  | some img => imageFault img

/-- A little-endian field of `size` bytes at `off` of an image of length `len`, or the fallback value
where the field lies wholly or partly at or beyond `len - 2` (R190). DEDUCED: log entry 23. -/
def imageField (img : List Byte) (len off size dflt : Nat) : Nat :=
  if off + size + 2 ≤ len then littleAt img off size else dflt

/-- An image byte, or `none` where it is absent (R190). -/
def imageByte? (img : List Byte) (len off : Nat) : Option Nat :=
  if off + 3 ≤ len then some (byteAt img off) else none

/-- A line byte: bit 0 wired, bit 1 active HIGH, bits 2 to 4 debounce code. -/
def lineSettingOf (b : Nat) : LineSetting :=
  { wired := bitOf b 0, activeHigh := bitOf b 1, debounceCode := bitsOf b 2 3 }

/-- The origin kind of a two-bit code. -/
def originKindOf (c : Nat) : OriginKind :=
  if c = 1 then .bus else if c = 2 then .line else if c = 3 then .shaft else .none

/-- An origin byte: bits 0 and 1 primary, bits 2 and 3 alternate. -/
def originPairOf (b : Nat) : OriginPair :=
  { primary := originKindOf (bitsOf b 0 2), alternate := originKindOf (bitsOf b 2 2) }

/-- The source entry whose 20 bytes begin at `o`. -/
def entryOf (img : List Byte) (o : Nat) : SourceEntry :=
  { valid := bitOf (byteAt img o) 0, reject := bitOf (byteAt img o) 1
    extended := bitOf (byteAt img o) 2, alternate := bitOf (byteAt img o) 3
    bigEndian := bitOf (byteAt img o) 4, high := bitOf (byteAt img o) 5
    ident := BitVec.ofNat 32 (littleAt img (o + 1) 4), mask := BitVec.ofNat 32 (littleAt img (o + 5) 4)
    signalCode := byteAt img (o + 9), fieldType := byteAt img (o + 10)
    bitNumber := byteAt img (o + 11), startByte := byteAt img (o + 12)
    shift := byteAt img (o + 13), multiplier := littleAt img (o + 14) 2
    offset := signedOf 16 (littleAt img (o + 16) 2), staleness := byteAt img (o + 18) }

/-- The profile that an image of length `len` holds, absent fields taking their FALLBACK value. -/
def profileOf (img : List Byte) (len : Nat) : Profile :=
  let f := fallbackProfile
  { base := BitVec.ofNat 32 (imageField img len 3 4 f.base.toNat)
    bitRateCode := imageField img len 7 1 f.bitRateCode
    unitSerial := imageField img len 8 2 f.unitSerial
    intakeReserve := imageField img len 10 1 f.intakeReserve
    summaryPeriod := imageField img len 11 1 f.summaryPeriod
    ignitionLine := ((imageByte? img len 12).map lineSettingOf).getD f.ignitionLine
    crankLine := ((imageByte? img len 13).map lineSettingOf).getD f.crankLine
    clutchLine := ((imageByte? img len 14).map lineSettingOf).getD f.clutchLine
    warningLine := ((imageByte? img len 15).map lineSettingOf).getD f.warningLine
    teeth := imageField img len 16 1 f.teeth
    encodingCode := ((imageByte? img len 17).map fun b => bitsOf b 0 3).getD f.encodingCode
    invert := ((imageByte? img len 17).map fun b => bitOf b 3).getD f.invert
    shockRatio := ((imageByte? img len 17).map fun b => bitsOf b 4 3).getD f.shockRatio
    speedFactor := imageField img len 18 2 f.speedFactor
    reversalRpm := imageField img len 20 2 f.reversalRpm
    origins := Vector.ofFn fun i =>
      ((imageByte? img len (22 + i.val)).map originPairOf).getD f.origins[i]
    runThreshold := imageField img len 33 2 f.runThreshold
    coldLimit := if 35 + 2 + 2 ≤ len then signedOf 16 (littleAt img 35 2) else f.coldLimit
    longCrankLimit := imageField img len 37 1 f.longCrankLimit
    coldCharge := imageField img len 38 2 f.coldCharge
    idleCeiling := imageField img len 40 2 f.idleCeiling
    overspeedLimit := imageField img len 42 2 f.overspeedLimit
    hotLimit := imageField img len 44 1 f.hotLimit
    reversalSpeed := imageField img len 45 2 f.reversalSpeed
    fallbackWeight := imageField img len 47 1 f.fallbackWeight
    speedBounds := Vector.ofFn fun i => imageField img len (48 + 2 * i.val) 2 f.speedBounds[i]
    loadBounds := Vector.ofFn fun i => imageField img len (56 + 2 * i.val) 2 f.loadBounds[i]
    gridA := Vector.ofFn fun i => imageField img len (62 + i.val) 1 f.gridA[i]
    gridB := Vector.ofFn fun i => imageField img len (82 + i.val) 1 f.gridB[i]
    limits := Vector.ofFn fun i => imageField img len (102 + 4 * i.val) 4 f.limits[i]
    levels := Vector.ofFn fun i => imageField img len (122 + i.val) 1 f.levels[i]
    maskLevel := imageField img len 136 1 f.maskLevel
    lampLevel := imageField img len 137 1 f.lampLevel
    entries := Vector.ofFn fun i =>
      if 138 + 20 * (i.val + 1) + 2 ≤ len then entryOf img (138 + 20 * i.val) else f.entries[i] }

/-! ## The profile check (R185) -/

/-- The link part (R150): the bit-rate code, the positions above the 29th and the low 8 positions. -/
def checkLink (p : Profile) : Profile :=
  { p with
    bitRateCode := if 1 < p.bitRateCode then 0 else p.bitRateCode
    base := p.base &&& 0x1FFFFF00#32 }

/-- The origin kinds a signal allows (introduction, section 4). -/
def kindAllowed (sig : Nat) : OriginKind → Bool
  | .none | .bus => true
  | .line => sig == 6 || sig == 7 || sig == 8
  | .shaft => sig == 5

/-- The origin part (R14): a kind that the signal does not allow becomes NONE. -/
def checkOrigins (p : Profile) : Profile :=
  { p with origins := Vector.ofFn fun i =>
      { primary := if kindAllowed i.val p.origins[i].primary then p.origins[i].primary else .none
        alternate := if kindAllowed i.val p.origins[i].alternate then p.origins[i].alternate else .none } }

/-- A debounce code not of 0 to 3 becomes 10 ms (R26). -/
def checkDebounce (l : LineSetting) : LineSetting :=
  { l with debounceCode := if 3 < l.debounceCode then 1 else l.debounceCode }

/-- The line and shaft part (R26). -/
def checkLines (p : Profile) : Profile :=
  { p with
    ignitionLine := checkDebounce p.ignitionLine
    crankLine := checkDebounce p.crankLine
    clutchLine := checkDebounce p.clutchLine
    warningLine := checkDebounce p.warningLine
    encodingCode := if 2 < p.encodingCode then 0 else p.encodingCode
    speedFactor := if p.speedFactor = 0 ∧ 0 < p.teeth then 1 else p.speedFactor
    reversalRpm := min 16383 p.reversalRpm
    shockRatio := if 3 < p.shockRatio then 0 else p.shockRatio }

/-- The width in bytes of a field type: U8, S8, U16, S16, U32, BIT (R2). -/
def fieldWidth (t : Nat) : Nat :=
  if t = 2 ∨ t = 3 then 2 else if t = 4 then 4 else 1

/-- The required data length of an entry (R2). -/
def requiredLength (e : SourceEntry) : Nat := e.startByte + fieldWidth e.fieldType

/-- The scaling findings of R3. -/
def checkScaling (e : SourceEntry) : SourceEntry :=
  let e := { e with multiplier := if e.multiplier = 0 then 1 else e.multiplier }
  let e := { e with shift := if 15 < e.shift then 15 else e.shift }
  let e := { e with staleness := if e.staleness = 0 then 1 else e.staleness }
  if e.fieldType = 4 ∧ (e.multiplier ≠ 1 ∨ e.shift ≠ 0) then { e with multiplier := 1, shift := 0 }
  else e

/-- Whether a 29-bit entry can match an identifier of the block at `base` (R3). -/
def canMatchBlock (base : BitVec 32) (e : SourceEntry) : Bool :=
  e.extended && ((e.ident ^^^ base) &&& e.mask &&& 0x1FFFFF00#32) == 0

/-- The origin kind that an entry's signal and rank name, NONE for a signal code above 10. -/
def entryOriginKind (origins : Vector OriginPair 11) (e : SourceEntry) : OriginKind :=
  match origins[e.signalCode]? with
  | some o => if e.alternate then o.alternate else o.primary
  | none => .none

/-- The findings of R3 that disable an entry. -/
def entryDisabled (base : BitVec 32) (origins : Vector OriginPair 11) (e : SourceEntry) : Bool :=
  decide (10 < e.signalCode) || decide (5 < e.fieldType) || decide (7 < e.startByte)
    || decide (7 < e.bitNumber) || decide (8 < requiredLength e)
    || (!e.reject && entryOriginKind origins e != .bus)
    || canMatchBlock base e

/-- The check of one source table entry (R3): only a valid entry is checked. -/
def checkEntry (base : BitVec 32) (origins : Vector OriginPair 11) (e : SourceEntry) : SourceEntry :=
  if e.valid then
    { checkScaling e with valid := !entryDisabled base origins (checkScaling e) }
  else e

/-- The source table part (R3). -/
def checkSources (p : Profile) : Profile :=
  { p with entries := p.entries.map (checkEntry p.base p.origins) }

/-- Whether a list of boundaries is strictly ascending (R51). -/
def ascending : List Nat → Bool
  | a :: b :: l => decide (a < b) && ascending (b :: l)
  | _ => true

/-- The other values of the check: R6, R51, R79, R142, R177 and the table of R185. -/
def checkValues (p : Profile) : Profile :=
  { p with
    intakeReserve := min 12 p.intakeReserve
    speedBounds := if ascending p.speedBounds.toList then p.speedBounds else #v[900, 1400, 1900, 2400]
    loadBounds := if ascending p.loadBounds.toList then p.loadBounds else #v[300, 900, 1500]
    hotLimit := clampNat 10 250 p.hotLimit
    reversalSpeed := clampNat 1 2500 p.reversalSpeed
    levels := p.levels.map (min 7)
    maskLevel := min 6 p.maskLevel
    lampLevel := clampNat 1 7 p.lampLevel
    summaryPeriod := clampNat 8 120 p.summaryPeriod
    runThreshold := clampNat 50 2000 p.runThreshold
    coldLimit := clampInt (-40) 215 p.coldLimit
    longCrankLimit := clampNat 5 30 p.longCrankLimit
    coldCharge := min 36000 p.coldCharge
    idleCeiling := clampNat 300 3000 p.idleCeiling
    overspeedLimit := clampNat 1000 8000 p.overspeedLimit }

/-- The whole check in the order of R185. DEDUCED: log entry 22. -/
def checkProfile (p : Profile) : Profile :=
  checkValues (checkSources (checkLines (checkOrigins (checkLink p))))

/-- The line that feeds a signal's LINE origins (R14). -/
def lineOfSignal (p : Profile) (sig : Nat) : Bool :=
  if sig = 7 then p.crankLine.wired
  else if sig = 8 then p.ignitionLine.wired
  else if sig = 6 then p.clutchLine.wired
  else false

/-- A LINE origin whose line is not wired, and a SHAFT origin while teeth is 0, become NONE (R14). -/
def wiredKind (p : Profile) (sig : Nat) : OriginKind → OriginKind
  | .line => if lineOfSignal p sig then .line else .none
  | .shaft => if p.teeth = 0 then .none else .shaft
  | k => k

/-- The origin kinds in use after the wiring rule of R14, which leaves the profile state unchanged. -/
def dropUnwired (p : Profile) : Profile :=
  { p with origins := Vector.ofFn fun i =>
      { primary := wiredKind p i.val p.origins[i].primary
        alternate := wiredKind p i.val p.origins[i].alternate } }

/-- The profile in use, its state and the PROFILE FAULT cause for an answer of the configuration
memory (R184, R185). -/
def loadProfile (m : MemoryAnswer) : Profile × ProfileState × Option Nat :=
  match imageFinding m with
  | some cause => (dropUnwired (checkProfile fallbackProfile), .fallback, some cause)
  | none =>
    let img := (readProfile m).image.getD []
    let raw := profileOf img (imageLength img)
    (dropUnwired (checkProfile raw), if checkProfile raw = raw then .good else .adjusted, none)

/-! ## Values read from the profile in use -/

/-- The debounce time in ms: 2, 10, 50 or 200 (R25). -/
def debounceMs (l : LineSetting) : Nat :=
  if l.debounceCode = 0 then 2 else if l.debounceCode = 2 then 50
  else if l.debounceCode = 3 then 200 else 10

/-- The setting of a sense line. -/
def lineSetting (p : Profile) : SenseLine → LineSetting
  | .ignition => p.ignitionLine
  | .crank => p.crankLine
  | .clutchPedal => p.clutchLine
  | .powerWarning => p.warningLine

/-- Whether one origin of a slot has kind LINE. -/
def hasLineOrigin (p : Profile) (sig : Fin 11) : Bool :=
  p.origins[sig].primary == .line || p.origins[sig].alternate == .line

/-- Whether a line is in use (R25). -/
def lineInUse (p : Profile) : SenseLine → Bool
  | .ignition => p.ignitionLine.wired && hasLineOrigin p 8
  | .crank => p.crankLine.wired && hasLineOrigin p 7
  | .clutchPedal => p.clutchLine.wired && hasLineOrigin p 6
  | .powerWarning => p.warningLine.wired

/-- The edges per revolution E (R31). -/
def edgesPerRevolution (p : Profile) : Nat :=
  p.teeth * (if p.encodingCode = 1 then 2 else if p.encodingCode = 2 then 4 else 1)

/-- The number of boundaries less than or equal to a value (R51). -/
def bandOf (bounds : List Nat) (v : Int) : Nat := bounds.countP fun b => decide ((b : Int) ≤ v)

/-- The grid weight at a speed band and load band (R51). -/
def gridWeight (p : Profile) (useB : Bool) (n t : Int) : Nat :=
  let i := 4 * bandOf p.speedBounds.toList n + bandOf p.loadBounds.toList t
  ((if useB then p.gridB else p.gridA)[i]?).getD 0

/-- The level of a notice source (R142). -/
def levelOf (p : Profile) (n : Fin 14) : Nat := p.levels[n]

end Sys2Proof.Machine
end

