-- ==== Sys2Proof/Machine/State.lean ====
section
/-! DEFINITION. The state of the WZ412, block by block, as plain data, and its value after START-UP. -/

namespace Sys2Proof.Machine

/-! ## Time and the mode controller -/

/-- The model's clock: `now` counts microseconds; part millisecond time (R187) is `msBase` plus the
whole milliseconds since `msBaseAt`. -/
structure Clock where
  now      : Nat
  msBase   : Nat
  msBaseAt : Nat
  deriving DecidableEq, Repr

/-- The power modes (R179). -/
inductive PowerMode where
  | starting | run | attend | parked
  deriving DecidableEq, Repr

/-- Which of the two resets came last (R134). -/
inductive ResetReason where
  | power | restart
  deriving DecidableEq, Repr

/-- The calendar base: a reported value and the part seconds at which it was taken (R179, R187). -/
structure CalendarBase where
  value   : Nat
  takenAt : Nat
  deriving DecidableEq, Repr

/-- What the mode controller waits for while the restart flag is set (R186): the outcome of the
RESTART trigger, and the sending of the answer or its time-out. -/
structure RestartWait where
  outcome  : Bool
  answered : Bool
  timer    : Timer
  deriving DecidableEq, Repr

/-- The mode controller (R179, R180, R187).  `powered` is false while the part is held in reset; `memoryLine` is
what the profile read has put on the I2C line since the reset (R184, section 12.7). -/
structure Control where
  powered      : Bool
  mode         : PowerMode
  reason       : ResetReason
  profileState : ProfileState
  memoryLine   : List I2cEvent
  parkTimer    : Timer
  parkPending  : Bool
  partSeconds  : Nat
  secondsTimer : Timer
  calendar     : Option CalendarBase
  restart      : Option RestartWait
  deriving DecidableEq, Repr

/-! ## Signal board, intake and decode unit -/

/-- A signal's value: a number, or UNKNOWN, which only GEAR takes (R1). -/
inductive Value where
  | num (v : Int)
  | unknown
  deriving DecidableEq, Repr

/-- An origin record (R14). -/
structure Origin where
  kind    : OriginKind
  value   : Option Value
  ageBase : Nat
  fresh   : Bool
  timer   : Timer
  deriving DecidableEq, Repr

/-- The slot states (R1). -/
inductive SlotState where
  | never | freshPrimary | freshAlternate | held | lost
  deriving DecidableEq, Repr

/-- A signal slot (R1). -/
structure Slot where
  primary   : Origin
  alternate : Origin
  effective : Option Value
  state     : SlotState
  holdTimer : Timer
  deriving DecidableEq, Repr

/-- The signal board: the eleven slots by signal code and the values last handed (R22).  A handed GEAR
of `none` is UNKNOWN; a handed CLUTCH ENGAGEMENT of `none` is no effective value. -/
structure Board where
  slots          : Vector Slot 11
  handedCrank    : Bool
  handedIgnition : Bool
  handedGear     : Option Int
  handedClutch   : Option Int
  deriving DecidableEq, Repr

/-- An intake slot (R8). -/
structure IntakeSlot where
  extended   : Bool
  ident      : BitVec 29
  length     : Nat
  data       : List Byte
  receivedMs : Nat
  matched    : List (Fin 16)
  deriving DecidableEq, Repr

/-- The four health counts of a source entry (R13). -/
structure Health where
  applied      : Nat
  short        : Nat
  notAvailable : Nat
  clamped      : Nat
  deriving DecidableEq, Repr

/-- The source matcher's intake with its counts (R6, R7) and the decode unit's health counts (R13). -/
structure Intake where
  slots    : List IntakeSlot
  refusals : Nat
  overruns : Nat
  health   : Vector Health 16
  deriving DecidableEq, Repr

/-! ## Input unit -/

/-- A running debounce measurement (R27): its start in part milliseconds and the moment it ends. -/
structure Measurement where
  startMs : Nat
  endsAt  : Nat
  deriving DecidableEq, Repr

/-- A sense line: its electrical level, its qualified level (`true` is active, `none` while the line is
not watched or not in use) and its measurement, IDLE where `none` (R25, R27, R29). -/
structure LineState where
  high      : Bool
  qualified : Option Bool
  measuring : Option Measurement
  deriving DecidableEq, Repr

/-- A shaft line: its electrical level, its accepted level and a pending edge candidate's time (R32). -/
structure ShaftPin where
  high      : Bool
  accepted  : Option Bool
  candidate : Option Nat
  deriving DecidableEq, Repr

/-- A direction of the shaft (R33). -/
inductive Direction where
  | forward | reverse
  deriving DecidableEq, Repr

/-- The shaft unit (R33 to R41).  `chain` is the time of the last rising edge of A in the chain, `none`
while the chain is broken; `handedSpeed` is the vehicle speed last handed (R39). -/
structure ShaftUnit where
  a           : ShaftPin
  b           : ShaftPin
  forward     : Nat
  reverse     : Nat
  direction   : Option Direction
  chain       : Option Nat
  period      : Option Nat
  speed       : Nat
  timeout     : Timer
  holdoff     : Timer
  handedSpeed : Nat
  deriving DecidableEq, Repr

/-- The input unit. -/
structure Inputs where
  ignition     : LineState
  crank        : LineState
  clutchPedal  : LineState
  powerWarning : LineState
  shaft        : ShaftUnit
  deriving DecidableEq, Repr

/-! ## Tally engine -/

/-- The whole steps of R44 that wait for the arithmetic unit: the request at the head of the request
list, the cyclic summary page, and the checkpoint snapshot. -/
inductive WholeStep where
  | request | page | snapshot
  deriving DecidableEq, Repr

/-- The state of the arithmetic unit (R43). -/
inductive UnitState where
  | free | decode | pass | step (w : WholeStep)
  deriving DecidableEq, Repr

/-- The events of the event side that a running pass holds back (R45).  A change that the signal board
hands on carries its time in part milliseconds (R22). -/
inductive TallyEvent where
  | crankBegin (atMs : Nat)
  | crankEnd (atMs : Nat)
  | gear (atMs : Nat) (previous now : Option Int)
  | clutch (atMs : Nat) (now : Option Int)
  | longCrank (begunMs : Nat)
  | shaftReversal (rpm : Nat)
  | shock (p1 p2 : Nat)
  deriving DecidableEq, Repr

/-- A held event with its arrival time in part milliseconds (R45). -/
structure HeldEvent where
  arrivedMs : Nat
  event     : TallyEvent
  deriving DecidableEq, Repr

/-- The arbiter of the arithmetic unit (R43, R45) and the tick timer (R42). -/
structure Arbiter where
  tickTimer   : Timer
  unit        : UnitState
  tickWaiting : Bool
  steps       : List WholeStep
  held        : List HeldEvent
  deriving DecidableEq, Repr

/-- The states of the start machine (section 3.8). -/
inductive StartState where
  | stopped | cranking | confirming | running
  deriving DecidableEq, Repr

/-- The start machine (R55). -/
structure StartMachine where
  state      : StartState
  assumed    : Bool
  inCrank    : Bool
  begunMs    : Nat
  cold       : Bool
  longTimer  : Timer
  crankMs    : Nat
  window     : Nat
  confirmed  : Nat
  speedSeen  : Bool
  stopCount  : Nat
  deriving DecidableEq, Repr

/-- The overspeed tracker (R53). -/
structure Overspeed where
  active   : Bool
  peak     : Nat
  duration : Nat
  deriving DecidableEq, Repr

/-- The clutch hot tracker (R66). -/
structure ClutchHot where
  active   : Bool
  hot      : Nat
  cool     : Nat
  peak     : Nat
  duration : Nat
  deriving DecidableEq, Repr

/-- The ignition disagreement tracker (R54). -/
structure Disagreement where
  count : Nat
  flag  : Bool
  deriving DecidableEq, Repr

/-- The unhired move tracker (R75). -/
structure UnhiredMove where
  armed : Bool
  move  : Nat
  quiet : Nat
  deriving DecidableEq, Repr

/-- The clutch watcher (R69): a recorded speed of `none` is unknown. -/
structure ClutchWatcher where
  disengaged : Bool
  recorded   : Option Int
  deriving DecidableEq, Repr

/-- The trackers and watchers of the tally engine and the RUN pass count (R63). -/
structure Trackers where
  overspeed    : Overspeed
  clutchHot    : ClutchHot
  disagreement : Disagreement
  unhiredMove  : UnhiredMove
  clutch       : ClutchWatcher
  runPasses    : Nat
  deriving DecidableEq, Repr

/-- The five accumulator remainders (R48). -/
structure Remainders where
  engine   : Nat
  clutch   : Nat
  distance : Nat
  forward  : Nat
  reverse  : Nat
  deriving DecidableEq, Repr

/-! ## Counter table and hire control -/

/-- The counter table (R81, R88, R90).  Place 45 of the hire scope belongs to UNHIRED RUN TIME, which
exists in the lifetime scope only; it stays 0. -/
structure Table where
  life  : Vector Nat 47
  hire  : Vector Nat 47
  marks : Vector Nat 5
  due   : Vector Bool 5
  deriving DecidableEq, Repr

/-- The hire states (R94). -/
inductive HireState where
  | noHire | opened | closing
  deriving DecidableEq, Repr

/-- The open hire header (R94). -/
structure HireHeader where
  number         : Nat
  serial         : Nat
  openedSeconds  : Nat
  openedCalendar : Option Nat
  storeFault     : Bool
  journalDrop    : Bool
  deriving DecidableEq, Repr

/-- A closed hire record (R94). -/
structure HireRecord where
  number         : Nat
  serial         : Nat
  openedSeconds  : Nat
  openedCalendar : Option Nat
  closedSeconds  : Nat
  closedCalendar : Option Nat
  counts         : Vector Nat 47
  storeFault     : Bool
  journalDrop    : Bool
  deriving DecidableEq, Repr

/-- The CHECK IN whose answer is deferred (R94, R103). -/
structure DeferredAnswer where
  token  : Nat
  number : Nat
  deriving DecidableEq, Repr

/-- The outcome that ends a closing (R101, R102). -/
inductive ClosingEnd where
  | written | failed
  deriving DecidableEq, Repr

/-- Hire control (R94).  `ending` is the outcome of a closing that came while a pass ran: the hire state cannot
change before the pass is over (R44, R82).  DEDUCED: log entry 41. -/
structure HireControl where
  state       : HireState
  serial      : Nat
  header      : Option HireHeader
  buffer      : Option HireRecord
  pendingMark : Bool
  deferred    : Option DeferredAnswer
  ending      : Option ClosingEnd
  deriving DecidableEq, Repr

/-! ## Journal and retained store -/

/-- The journal kinds (R109), in the order of their codes. -/
inductive EntryKind where
  | startup | signalLost | ignitionDisagreement | hireOpened | hireClosed | serviceDue | serviceDone
  | profileFault | longCrank | clutchHot | drivelineShock | storeFault | unhiredMove | overspeed
  | crankWhileRunning | misuseReverse | shaftReversal
  deriving DecidableEq, Repr

/-- The hire fields of an entry (R108): number and serial are present together. -/
structure HireTag where
  number : Nat
  serial : Nat
  deriving DecidableEq, Repr

/-- A journal entry (R108).  Its severity is fixed by its kind (R109). -/
structure Entry where
  seq         : Nat
  kind        : EntryKind
  partSeconds : Nat
  calendar    : Option Nat
  hire        : Option HireTag
  member      : Option Nat
  value1      : Nat
  value2      : Nat
  deriving DecidableEq, Repr

/-- The journal's working memory: the staging list and the next sequence number (R110, R111). -/
structure Journal where
  staging : List Entry
  nextSeq : Nat
  deriving DecidableEq, Repr

/-- The checkpoint kinds (R128). -/
inductive CheckpointKind where
  | periodic | event | park | restart | final
  deriving DecidableEq, Repr

/-- A checkpoint (R128). -/
structure Checkpoint where
  seq         : Nat
  kind        : CheckpointKind
  partSeconds : Nat
  life        : Vector Nat 47
  hire        : Vector Nat 47
  remainders  : Remainders
  marks       : Vector Nat 5
  hireState   : HireState
  hireSerial  : Nat
  header      : Option HireHeader
  closing     : Option HireRecord
  nextSeq     : Nat
  deriving DecidableEq, Repr

/-- A retained hire record with its record write number (R122). -/
structure RetainedHire where
  writeNo : Nat
  record  : HireRecord
  deriving DecidableEq, Repr

/-- The store states (R123). -/
inductive StoreState where
  | recovering | normal | quiesced | faulted
  deriving DecidableEq, Repr

/-- A waiting CHECKPOINT job (R124): its kind, the PARK and RESTART triggers it carries, and whether a
FINAL CHECKPOINT stands for it (R132). -/
structure CheckpointJob where
  kind       : CheckpointKind
  forPark    : Bool
  forRestart : Bool
  stoodFor   : Bool
  deriving DecidableEq, Repr

/-- A waiting FINAL CHECKPOINT job and the PARK and RESTART triggers it stands for (R132). -/
structure FinalJob where
  forPark    : Bool
  forRestart : Bool
  deriving DecidableEq, Repr

/-- A checkpoint job that holds the port: FINAL CHECKPOINT where `final`, else CHECKPOINT. -/
structure PortJob where
  final      : Bool
  kind       : CheckpointKind
  forPark    : Bool
  forRestart : Bool
  deriving DecidableEq, Repr

/-- What holds the array port (R126): nothing, a checkpoint job before its snapshot, a checkpoint
write, a hire record write, a journal entry write, or a stream item read.  `wanted` is false once the
stream that asked for the read has ended (R173, R174). -/
inductive Port where
  | free
  | snapshot (job : PortJob)
  | checkpoint (job : PortJob) (image : Checkpoint)
  | hireRecord (slot : Fin 8) (item : RetainedHire)
  | journalEntry (slot : Fin 256) (entry : Entry)
  | journalRead (slot : Fin 256) (wanted : Bool)
  | hireRead (slot : Fin 8) (wanted : Bool)
  deriving DecidableEq, Repr

/-- A JOURNAL job in progress (R115): the entries of its list not yet begun, and whether it has a
verified write (R130). -/
structure JournalJob where
  list  : List Entry
  wrote : Bool
  deriving DecidableEq, Repr

/-- A stream item read that waits for the port (R127). -/
inductive ReadRequest where
  | journal
  | hire (slot : Fin 8)
  deriving DecidableEq, Repr

/-- The retained store: its working memory (R123, R124) and the array (R122).  A slot of the array is
`some` where it is valid and `none` where its content does not verify. -/
structure Store where
  state          : StoreState
  waitFinal      : Option FinalJob
  waitHire       : Bool
  waitJournal    : Bool
  waitCheckpoint : Option CheckpointJob
  journalJob     : Option JournalJob
  port           : Port
  readPending    : Option ReadRequest
  nextSlot       : Fin 32
  nextSeq        : Nat
  nextWriteNo    : Nat
  failedJobs     : Nat
  failureCount   : Nat
  finalAttempted : Bool
  ring           : Vector (Option Checkpoint) 32
  history        : Vector (Option RetainedHire) 8
  journal        : Vector (Option Entry) 256
  deriving DecidableEq, Repr

/-! ## Notices -/

/-- The notice arbiter (R139). -/
structure Notices where
  conditions  : Vector Bool 14
  misuseTimer : Timer
  reverseTimer : Timer
  shockTimer  : Timer
  presented   : Option (Fin 14)
  dwell       : Timer
  repeatTimer : Timer
  lamp        : Bool
  deriving DecidableEq, Repr

/-! ## Link unit -/

/-- The part of an item that a STREAM frame carries: its last frame closes an entry (with its sequence
number) or a hire record. -/
inductive StreamPart where
  | inside
  | lastOfEntry (seq : Nat)
  | lastOfHire
  deriving DecidableEq, Repr

/-- What an outgoing frame is.  A STREAM frame whose stream has been aborted is no longer `counted`
(R173). -/
inductive FrameKind where
  | answer
  | restartAnswer
  | notice
  | summary
  | stream (part : StreamPart) (counted : Bool)
  deriving DecidableEq, Repr

/-- An outgoing frame: its offset in the part's block, its data bytes and what it is. -/
structure OutFrame where
  offset : Nat
  data   : List Byte
  kind   : FrameKind
  deriving DecidableEq, Repr

/-- The frame in the transmitter with its attempt count (R153). -/
structure Transmitter where
  frame    : OutFrame
  attempts : Nat
  deriving DecidableEq, Repr

/-- The link states (R155). -/
inductive LinkState where
  | errorActive | errorPassive | busOff
  deriving DecidableEq, Repr

/-- Whether the link unit takes part in the bus (R161, R162): no; no longer, but with an attempt that may
still be on the bus from before the entry into PARKED or a DEPOT RESTART; waiting for 11 recessive
bits; waiting so with such an attempt; or yes. -/
inductive Participation where
  | apart | leaving | joining | rejoining | joined
  deriving DecidableEq, Repr

/-- What the part itself put on the bus beside its own frame at the last frame end or error: nothing, an
acknowledgement (R151), a dominant error flag or a recessive error flag (R152, R155). -/
inductive BusDrive where
  | nothing | acknowledge | dominantFlag | recessiveFlag
  deriving DecidableEq, Repr

/-- The link unit (chapter 10).  TEC holds no value in BUS OFF (R156). -/
structure Link where
  tec           : Option Nat
  recCount      : Nat
  state         : LinkState
  warning       : Bool
  participation : Participation
  drive         : BusDrive
  answers       : List OutFrame
  notice        : Option OutFrame
  summary       : Option OutFrame
  stream        : Option OutFrame
  transmitter   : Option Transmitter
  pacing        : Nat
  busOffCount   : Nat
  recovery      : Nat
  lastStreamEnd : Option Nat
  deriving DecidableEq, Repr

/-! ## Request server -/

/-- The kinds of frame that the request server takes (R163). -/
inductive RequestFrame where
  | request
  | hireControl
  | hold
  | page (n : Nat)
  deriving DecidableEq, Repr

/-- A request of the request list: its frame kind, data length and data bytes (R151, R163). -/
structure Request where
  frame  : RequestFrame
  length : Nat
  data   : List Byte
  deriving DecidableEq, Repr

/-- The record a hire stream was started for (R105, R175): a snapshot, the closing buffer's record by
its serial and closed part seconds, or a history slot with what the lookup found there. -/
inductive HireChoice where
  | live (record : HireRecord)
  | unwritten (serial closedSeconds : Nat)
  | retained (slot : Fin 8) (number serial closedSeconds : Nat)
  deriving DecidableEq, Repr

/-- The kind of a stream (R170). -/
inductive StreamKind where
  | journal (start count : Nat)
  | hire (choice : HireChoice)
  deriving DecidableEq, Repr

/-- The stream in progress (R170, R172): `handed` items have been read, `previous` is the sequence
number of the last of them, `waiting` are the frames of the item that are not yet handed, and
`noMore` says that the stream has no further item. -/
structure RunningStream where
  kind     : StreamKind
  token    : Nat
  sent     : Nat
  frames   : Nat
  handed   : Nat
  previous : Option Nat
  lastSent : Option Nat
  waiting  : List OutFrame
  noMore   : Bool
  deriving DecidableEq, Repr

/-- A READ JOURNAL in the continuation slot (R170). -/
structure Continuation where
  token : Nat
  start : Nat
  count : Nat
  deriving DecidableEq, Repr

/-- The LINK LOST mark (R174). -/
structure LostMark where
  token    : Nat
  tag      : Bool
  hire     : Bool
  sent     : Nat
  lastSent : Option Nat
  deriving DecidableEq, Repr

/-- The stream engine (R170): IDLE where `running` is `none`. -/
structure StreamEngine where
  running      : Option RunningStream
  continuation : Option Continuation
  tag          : Bool
  lost         : Option LostMark
  deriving DecidableEq, Repr

/-- The request server (chapter 11): request list, the answer frames built by the step being taken for
its head (R164), held answers, HOLD timer and page cycler. -/
structure Server where
  requests  : List Request
  built     : List OutFrame
  held      : List OutFrame
  holdTimer : Timer
  nextPage  : Nat
  pageTimer : Timer
  deriving DecidableEq, Repr

/-! ## The whole part -/

/-- Why a step stops.  The manual gives every event an effect, so no meaning raises a fault. -/
inductive Fault where
  deriving DecidableEq, Repr

/-- Why a command has no meaning. -/
inductive Refusal where
  /-- Raised by `exec` for a command without a meaning yet; safe: the run stops.  No arm of `exec`
  raises it in this model. -/
  | notModelled (mnemonic : String)
  deriving DecidableEq, Repr

/-- The state of the WZ412: the thirteen blocks, the clock, the profile in use, the model's own
counter `free` of the free values taken, and the commands waiting, first in, first out. -/
structure State where
  clock      : Clock
  control    : Control
  profile    : Profile
  board      : Board
  intake     : Intake
  inputs     : Inputs
  arbiter    : Arbiter
  start      : StartMachine
  trackers   : Trackers
  remainders : Remainders
  table      : Table
  hire       : HireControl
  journal    : Journal
  store      : Store
  notices    : Notices
  link       : Link
  stream     : StreamEngine
  server     : Server
  free       : Nat
  pending    : List Instr
  deriving DecidableEq, Repr

/-! ## Reset values -/

/-- Control right after START-UP (R179). DESIGN CHOICE: log entry 24. -/
def Control.reset (reason : ResetReason) : Control :=
  { powered := true, mode := .starting, reason := reason, profileState := .good, memoryLine := []
    parkTimer := none, parkPending := false, partSeconds := 0, secondsTimer := none, calendar := none
    restart := none }

/-- An origin record after a reset (R14). -/
def Origin.reset (kind : OriginKind) : Origin :=
  { kind := kind, value := none, ageBase := 0, fresh := false, timer := none }

/-- A slot after a reset (R1). -/
def Slot.reset (kinds : OriginPair) : Slot :=
  { primary := .reset kinds.primary, alternate := .reset kinds.alternate, effective := none
    state := .never, holdTimer := none }

/-- The signal board after a reset (R1, R14, R22). DESIGN CHOICE: log entry 25. -/
def Board.reset : Board :=
  { slots := Vector.replicate 11 (.reset { primary := .none, alternate := .none })
    handedCrank := false, handedIgnition := false, handedGear := none, handedClutch := none }

/-- The intake and the health counts after a reset (R7, R8, R13). -/
def Intake.reset : Intake :=
  { slots := [], refusals := 0, overruns := 0
    health := Vector.replicate 16 { applied := 0, short := 0, notAvailable := 0, clamped := 0 } }

/-- A sense line after a reset, its electrical level given (R29). -/
def LineState.reset (high : Bool) : LineState := { high := high, qualified := none, measuring := none }

/-- A shaft line after a reset, its electrical level given (R41). -/
def ShaftPin.reset (high : Bool) : ShaftPin := { high := high, accepted := none, candidate := none }

/-- The shaft unit after a reset, the levels of its lines given (R41). -/
def ShaftUnit.reset (a b : Bool) : ShaftUnit :=
  { a := .reset a, b := .reset b, forward := 0, reverse := 0, direction := none, chain := none
    period := none, speed := 0, timeout := none, holdoff := none, handedSpeed := 0 }

/-- The input unit after a reset: the electrical levels are the outside's and stay (R29, R41). -/
def Inputs.reset (i : Inputs) : Inputs :=
  { ignition := .reset i.ignition.high, crank := .reset i.crank.high
    clutchPedal := .reset i.clutchPedal.high, powerWarning := .reset i.powerWarning.high
    shaft := .reset i.shaft.a.high i.shaft.b.high }

/-- The arbiter after a reset (R42, R43, R45). -/
def Arbiter.reset : Arbiter :=
  { tickTimer := none, unit := .free, tickWaiting := false, steps := [], held := [] }

/-- The start machine after a reset (R55). DESIGN CHOICE: log entry 25. -/
def StartMachine.reset : StartMachine :=
  { state := .stopped, assumed := false, inCrank := false, begunMs := 0, cold := false
    longTimer := none, crankMs := 0, window := 0, confirmed := 0, speedSeen := false, stopCount := 0 }

/-- The trackers after a reset (R53, R54, R63, R66, R69, R75). -/
def Trackers.reset : Trackers :=
  { overspeed := { active := false, peak := 0, duration := 0 }
    clutchHot := { active := false, hot := 0, cool := 0, peak := 0, duration := 0 }
    disagreement := { count := 0, flag := false }
    unhiredMove := { armed := true, move := 0, quiet := 0 }
    clutch := { disengaged := false, recorded := none }
    runPasses := 0 }

/-- The remainders when recovery finds no checkpoint (R48). -/
def Remainders.reset : Remainders :=
  { engine := 0, clutch := 0, distance := 0, forward := 0, reverse := 0 }

/-- The counter table when recovery finds no checkpoint (R85, R86, R88, R91). -/
def Table.reset : Table :=
  { life := Vector.replicate 47 0, hire := Vector.replicate 47 0
    marks := Vector.replicate 5 0, due := Vector.replicate 5 false }

/-- Hire control when recovery finds no checkpoint (R106). -/
def HireControl.reset : HireControl :=
  { state := .noHire, serial := 0, header := none, buffer := none, pendingMark := false, deferred := none
    ending := none }

/-- The journal's working memory after a reset, before recovery (R121). DESIGN CHOICE: log entry 25. -/
def Journal.reset : Journal := { staging := [], nextSeq := 0 }

/-- The retained store after a reset: working memory as R123 states, the array unchanged.
DESIGN CHOICE: log entry 25. -/
def Store.reset (s : Store) : Store :=
  { s with
    state := .recovering, waitFinal := none, waitHire := false, waitJournal := false
    waitCheckpoint := none, journalJob := none, port := .free, readPending := none
    nextSlot := 0, nextSeq := 0, nextWriteNo := 0, failedJobs := 0, failureCount := 0
    finalAttempted := false }

/-- A store whose array has never been written (R122: such a slot is invalid). DESIGN CHOICE: log entry 36. -/
def Store.blank : Store :=
  { state := .recovering, waitFinal := none, waitHire := false, waitJournal := false
    waitCheckpoint := none, journalJob := none, port := .free, readPending := none
    nextSlot := 0, nextSeq := 0, nextWriteNo := 0, failedJobs := 0, failureCount := 0
    finalAttempted := false
    ring := Vector.replicate 32 none, history := Vector.replicate 8 none
    journal := Vector.replicate 256 none }

/-- The notice arbiter after a reset (R139). -/
def Notices.reset : Notices :=
  { conditions := Vector.replicate 14 false, misuseTimer := none, reverseTimer := none
    shockTimer := none, presented := none, dwell := none, repeatTimer := none, lamp := false }

/-- The link unit after a reset (R161, R162). DESIGN CHOICE: log entry 25. -/
def Link.reset : Link :=
  { tec := some 0, recCount := 0, state := .errorActive, warning := false, participation := .apart
    drive := .nothing, answers := [], notice := none, summary := none, stream := none
    transmitter := none, pacing := 0, busOffCount := 0, recovery := 0, lastStreamEnd := none }

/-- The stream engine after a reset (R170). -/
def StreamEngine.reset : StreamEngine :=
  { running := none, continuation := none, tag := false, lost := none }

/-- The request server after a reset (R163, R165, R176, R177). -/
def Server.reset : Server :=
  { requests := [], built := [], held := [], holdTimer := none, nextPage := 0, pageTimer := none }

/-- All lines at their low level. DESIGN CHOICE: log entry 2. -/
def Inputs.blank : Inputs :=
  { ignition := .reset false, crank := .reset false, clutchPedal := .reset false
    powerWarning := .reset false, shaft := .reset false false }

/-- The machine right after the first START-UP, in STARTING, with a retained array that has never
been written. -/
def State.reset : State :=
  { clock := { now := 0, msBase := 0, msBaseAt := 0 }
    control := .reset .power
    profile := fallbackProfile
    board := .reset, intake := .reset, inputs := .blank, arbiter := .reset, start := .reset
    trackers := .reset, remainders := .reset, table := .reset, hire := .reset, journal := .reset
    store := .blank, notices := .reset, link := .reset, stream := .reset, server := .reset
    free := 0, pending := [] }

end Sys2Proof.Machine
end

