-- ==== Sys2Proof/Machine/Ops.lean ====
section
/-! DEFINITION. The named operations over the state that every block uses: replacing one block, time,
calendar time, counter increments (R82 to R84) and the counting of a dropped entry (R112). -/

namespace Sys2Proof.Machine

/-! ## Replacing one block of the state -/

/-- The state with its `clock` replaced. -/
def State.setClock (s : State) (x : Clock) : State := { s with clock := x }

/-- The state with its `control` replaced. -/
def State.setControl (s : State) (x : Control) : State := { s with control := x }

/-- The state with its `profile` replaced. -/
def State.setProfile (s : State) (x : Profile) : State := { s with profile := x }

/-- The state with its `board` replaced. -/
def State.setBoard (s : State) (x : Board) : State := { s with board := x }

/-- The state with its `intake` replaced. -/
def State.setIntake (s : State) (x : Intake) : State := { s with intake := x }

/-- The state with its `inputs` replaced. -/
def State.setInputs (s : State) (x : Inputs) : State := { s with inputs := x }

/-- The state with its `arbiter` replaced. -/
def State.setArbiter (s : State) (x : Arbiter) : State := { s with arbiter := x }

/-- The state with its `start` replaced. -/
def State.setStart (s : State) (x : StartMachine) : State := { s with start := x }

/-- The state with its `trackers` replaced. -/
def State.setTrackers (s : State) (x : Trackers) : State := { s with trackers := x }

/-- The state with its `remainders` replaced. -/
def State.setRemainders (s : State) (x : Remainders) : State := { s with remainders := x }

/-- The state with its `table` replaced. -/
def State.setTable (s : State) (x : Table) : State := { s with table := x }

/-- The state with its `hire` replaced. -/
def State.setHire (s : State) (x : HireControl) : State := { s with hire := x }

/-- The state with its `journal` replaced. -/
def State.setJournal (s : State) (x : Journal) : State := { s with journal := x }

/-- The state with its `store` replaced. -/
def State.setStore (s : State) (x : Store) : State := { s with store := x }

/-- The state with its `notices` replaced. -/
def State.setNotices (s : State) (x : Notices) : State := { s with notices := x }

/-- The state with its `link` replaced. -/
def State.setLink (s : State) (x : Link) : State := { s with link := x }

/-- The state with its `stream` replaced. -/
def State.setStream (s : State) (x : StreamEngine) : State := { s with stream := x }

/-- The state with its `server` replaced. -/
def State.setServer (s : State) (x : Server) : State := { s with server := x }

/-- The state with its `free` replaced. -/
def State.setFree (s : State) (x : Nat) : State := { s with free := x }

/-- The state with its `pending` replaced. -/
def State.setPending (s : State) (x : List Instr) : State := { s with pending := x }

/-! ## Time -/

/-- Part millisecond time at a moment of the model's clock (R187). DEDUCED: log entry 20. -/
def State.msAt (s : State) (t : Nat) : Nat :=
  min ceiling64 (s.clock.msBase + (t - s.clock.msBaseAt) / 1000)

/-- Part millisecond time now. -/
def State.nowMs (s : State) : Nat := s.msAt s.clock.now

/-- The state after `dt` microseconds. -/
def State.advance (s : State) (dt : Nat) : State :=
  s.setClock { s.clock with now := s.clock.now + dt }

/-- The state at the moment `t`, or unchanged where `t` is past. -/
def State.advanceTo (s : State) (t : Nat) : State :=
  s.setClock { s.clock with now := max s.clock.now t }

/-- A timer loaded with `us` microseconds from now. -/
def State.timerIn (s : State) (us : Nat) : Timer := some (s.clock.now + us)

/-- Calendar time, `none` while it is unknown (R187). -/
def State.calendarNow (s : State) : Option Nat :=
  s.control.calendar.map fun b => min ceiling (b.value + (s.control.partSeconds - b.takenAt))

/-- Whether tally passes and the bus are served: the modes RUN and ATTEND (R42, R159). -/
def State.awake (s : State) : Bool := s.control.mode == .run || s.control.mode == .attend

/-! ## Counters -/

/-- The counters by name (section 5.1).  `gearTime` counts GEAR R TIME, GEAR N TIME, GEAR 1 TIME to
GEAR 12 TIME and GEAR UNKNOWN TIME in this order. -/
inductive Counter where
  | startAttempts | startsSuccessful | startsFailed | startsUnconfirmed | coldAttempts | crankTime
  | starterUnits | cranksWhileRunning | longCranks | runTime | idleTime | equivalentTime
  | unverifiedTime | overspeedTime | overspeedEpisodes | engineStops | unobservedStarts | clutchWork
  | engagements | launches | hotEpisodes | hotTime | shifts | misuseReverses | gearTime (i : Fin 15)
  | forwardRevolutions | reverseRevolutions | shaftReversals | shocks | distance | movingTime
  | unhiredRunTime | journalDropped
  deriving DecidableEq, Repr

/-- The number of a counter (section 5.1). -/
def Counter.number : Counter → Fin 47
  | .startAttempts => 0 | .startsSuccessful => 1 | .startsFailed => 2 | .startsUnconfirmed => 3
  | .coldAttempts => 4 | .crankTime => 5 | .starterUnits => 6 | .cranksWhileRunning => 7
  | .longCranks => 8 | .runTime => 9 | .idleTime => 10 | .equivalentTime => 11
  | .unverifiedTime => 12 | .overspeedTime => 13 | .overspeedEpisodes => 14 | .engineStops => 15
  | .unobservedStarts => 16 | .clutchWork => 17 | .engagements => 18 | .launches => 19
  | .hotEpisodes => 20 | .hotTime => 21 | .shifts => 22 | .misuseReverses => 23
  | .gearTime i => ⟨24 + i.val, by omega⟩
  | .forwardRevolutions => 39 | .reverseRevolutions => 40 | .shaftReversals => 41 | .shocks => 42
  | .distance => 43 | .movingTime => 44 | .unhiredRunTime => 45 | .journalDropped => 46

/-- The gear-time counter of a sampled gear (R49): −1 to 12 its own; UNKNOWN, or no effective value, GEAR
UNKNOWN TIME. -/
def gearIndex : Option Int → Fin 15
  | none => 14
  | some g => if h : -1 ≤ g ∧ g ≤ 12 then ⟨(g + 1).toNat, by omega⟩ else 14

/-- Whether a hire is open (R94: in OPEN alone). -/
def State.hireOpen (s : State) : Bool := s.hire.state == .opened

/-- One increment step (R82, R83, R84): the lifetime counter takes the amount up to the ceiling; with a
hire open the hire-scope counter takes it up to the lifetime value. -/
def tableAdd (opened : Bool) (n : Fin 47) (amount : Nat) (t : Table) : Table :=
  { t with
    life := t.life.set n (capAdd ceiling t.life[n] amount)
    hire := if opened then
        t.hire.set n (max t.hire[n] (min (capAdd ceiling t.hire[n] amount) (capAdd ceiling t.life[n] amount)))
      else t.hire }

/-- Increments a counter by an amount in every scope that the increment reaches. -/
def State.raise (s : State) (c : Counter) (amount : Nat) : State :=
  s.setTable (tableAdd s.hireOpen c.number amount s.table)

/-- The start group of one scope raised for one closing (R56): START ATTEMPTS, the outcome counter and,
for a cold attempt, COLD ATTEMPTS. -/
def raiseGroup (outcome : Fin 47) (cold : Bool) (v : Vector Nat 47) : Vector Nat 47 :=
  let v := v.set 0 (capAdd ceiling v[0] 1)
  let v := v.set outcome (capAdd ceiling v[outcome] 1)
  if cold then v.set 4 (capAdd ceiling v[4] 1) else v

/-- Whether none of the counters 0 to 4 of one scope exceeds the other's (R84). -/
def groupWithin (hire life : Vector Nat 47) : Bool :=
  decide (hire[0] ≤ life[0]) && decide (hire[1] ≤ life[1]) && decide (hire[2] ≤ life[2])
    && decide (hire[3] ≤ life[3]) && decide (hire[4] ≤ life[4])

/-- The start group at the closing of an attempt (R56, R84): no change in a scope whose START ATTEMPTS
is at the ceiling; the hire scope changes whole or not at all. -/
def tableClose (opened : Bool) (outcome : Fin 47) (cold : Bool) (t : Table) : Table :=
  let life := if t.life[0] < ceiling then raiseGroup outcome cold t.life else t.life
  let hire := raiseGroup outcome cold t.hire
  { t with
    life := life
    hire := if opened && decide (t.hire[0] < ceiling) && groupWithin hire life then hire else t.hire }

/-- The hire scope at zero (R97, R99, R86). -/
def zeroHire (t : Table) : Table := { t with hire := Vector.replicate 47 0 }

/-- The value of a lifetime counter. -/
def State.life (s : State) (c : Counter) : Nat := s.table.life[c.number]

/-- The value of a hire-scope counter. -/
def State.hireCount (s : State) (c : Counter) : Nat := s.table.hire[c.number]

/-! ## Dropped entries -/

/-- Sets the store fault flag of an open hire (R95). -/
def State.flagStoreFault (s : State) : State :=
  match s.hire.header with
  | some h => if s.hireOpen then s.setHire { s.hire with header := some { h with storeFault := true } } else s
  | none => s

/-- Sets the journal drop flag of an open hire (R95). -/
def State.flagJournalDrop (s : State) : State :=
  match s.hire.header with
  | some h => if s.hireOpen then s.setHire { s.hire with header := some { h with journalDrop := true } } else s
  | none => s

/-- The counting of a dropped entry (R112). -/
def State.countDrop (s : State) : State := (s.raise .journalDropped 1).flagJournalDrop

/-- Stops the park timer: one of its conditions has stopped holding (R180). -/
def State.stopPark (s : State) : State := s.setControl { s.control with parkTimer := none }

end Sys2Proof.Machine
end

