-- ==== Sys2Proof/Machine/Flags.lean ====
section
/-! DEFINITION. The flags that follow from counts: link state and WARNING (R155), saturation (R83), wear
fraction and due (R89), the severity and codes of a journal kind (R109). -/

namespace Sys2Proof.Machine

/-! ## Link state -/

/-- Whether TEC stands at or above a limit; in BUS OFF it holds no value. -/
def tecAtLeast (tec : Option Nat) (n : Nat) : Bool :=
  match tec with
  | some t => decide (n ≤ t)
  | none => false

/-- Link state and WARNING flag follow the two counts outside BUS OFF (R155). -/
def confine (l : Link) : Link :=
  if l.state = .busOff then l
  else { l with
    state := if tecAtLeast l.tec 128 || decide (128 ≤ l.recCount) then .errorPassive else .errorActive
    warning := tecAtLeast l.tec 96 || decide (96 ≤ l.recCount) }

/-! ## Wear -/

/-- The wear index of a member (R87). -/
def wearIndex (life : Vector Nat 47) (m : Fin 5) : Nat :=
  if m = 0 then life[6] else if m = 1 then life[11] else if m = 2 then life[17]
  else if m = 3 then life[22] else life[39] + life[40]

/-- The worn amount of a member (R89). -/
def wornAmount (t : Table) (m : Fin 5) : Nat := wearIndex t.life m - t.marks[m]

/-- Whether a member is due (R89). -/
def isDue (limits : Vector Nat 5) (t : Table) (m : Fin 5) : Bool :=
  decide (0 < limits[m]) && decide (limits[m] ≤ wornAmount t m)

/-- The wear fraction of a member in half-percent steps (R89). -/
def wearFraction (limits : Vector Nat 5) (t : Table) (m : Fin 5) : Nat :=
  if limits[m] = 0 then 0 else min 255 (wornAmount t m * 200 / limits[m])

/-- A counter is saturated when it equals the ceiling (R83). -/
def saturated (v : Nat) : Bool := decide (ceiling ≤ v)

/-! ## Journal kinds -/

/-- The kind code (R109). -/
def EntryKind.code : EntryKind → Nat
  | .startup => 0 | .signalLost => 1 | .ignitionDisagreement => 2 | .hireOpened => 3
  | .hireClosed => 4 | .serviceDue => 5 | .serviceDone => 6 | .profileFault => 7 | .longCrank => 8
  | .clutchHot => 9 | .drivelineShock => 10 | .storeFault => 11 | .unhiredMove => 12
  | .overspeed => 13 | .crankWhileRunning => 14 | .misuseReverse => 15 | .shaftReversal => 16

/-- The severity of a kind (R109): 1 INFO, 2 MISUSE, 3 DAMAGE. -/
def EntryKind.severity : EntryKind → Nat
  | .startup | .signalLost | .ignitionDisagreement | .hireOpened | .hireClosed | .serviceDue
  | .serviceDone => 1
  | .profileFault | .longCrank | .clutchHot | .drivelineShock | .storeFault | .unhiredMove => 2
  | .overspeed | .crankWhileRunning | .misuseReverse | .shaftReversal => 3

/-- An entry is unsettled while the hire it names is open (R114). -/
def settled (hire : HireControl) (e : Entry) : Bool :=
  match hire.state, hire.header, e.hire with
  | .opened, some h, some t => t.serial != h.serial
  | _, _, _ => true

/-- The rank of a checkpoint kind: RESTART above PARK above EVENT above PERIODIC (R124). -/
def CheckpointKind.rank : CheckpointKind → Nat
  | .periodic => 0 | .event => 1 | .park => 2 | .restart => 3 | .final => 4

/-! ## Tally-relevant signals -/

/-- The tally-relevant slots (R21). -/
def Signal.tallyRelevant : Signal → Bool
  | .engineSpeed | .engineTorque | .inputShaftSpeed | .gear | .vehicleSpeed | .clutchEngagement => true
  | .coolant | .crank | .ignition | .gridSelect | .calendar => false

end Sys2Proof.Machine
end

