-- ==== Sys2Proof/Machine/Board.lean ====
section
/-! DEFINITION. The signal board's slots (R1, R14 to R20) and the decode unit's arithmetic (R10 to R12), as
functions of one slot, one entry and one value. -/

namespace Sys2Proof.Machine

/-! ## Reading the board -/

/-- The slot of a signal. -/
def State.slot (s : State) (sig : Signal) : Slot := s.board.slots[sig.code]

/-- The effective value of a signal, `none` where its slot has none (R1). -/
def State.effective (s : State) (sig : Signal) : Option Value := (s.slot sig).effective

/-- A value as a number: UNKNOWN is none. -/
def Value.num? : Value → Option Int
  | .num v => some v
  | .unknown => none

/-- The effective value of a signal as a number. -/
def State.effectiveNum (s : State) (sig : Signal) : Option Int := (s.effective sig).bind Value.num?

/-- A binary signal as its user counts it: no effective value counts as 0 (R22). -/
def countsAsOne : Option Value → Bool
  | some (.num v) => v == 1
  | _ => false

/-- Whether effective IGNITION is 1 (R179). -/
def State.ignitionOn (s : State) : Bool := countsAsOne (s.effective .ignition)

/-! ## One slot (R15 to R20) -/

/-- The origin of a slot at a rank. -/
def Slot.origin (sl : Slot) : Rank → Origin
  | .primary => sl.primary
  | .alternate => sl.alternate

/-- Replaces the origin of a slot at a rank. -/
def Slot.setOrigin (sl : Slot) (o : Origin) : Rank → Slot
  | .primary => { sl with primary := o }
  | .alternate => { sl with alternate := o }

/-- A fresh report at a rank (R19): a primary one is always believed, an alternate one unless the slot is
FRESH-PRIMARY. -/
def slotFresh (rank : Rank) (v : Value) (sl : Slot) : Slot :=
  match rank with
  | .primary => { sl with state := .freshPrimary, effective := some v, holdTimer := none }
  | .alternate =>
    if sl.state = .freshPrimary then sl
    else { sl with state := .freshAlternate, effective := some v, holdTimer := none }

/-- An expiry at a rank (R19): it matters only for the origin the slot is using. -/
def slotExpired (now : Nat) (rank : Rank) (sl : Slot) : Slot :=
  match rank, sl.state with
  | .primary, .freshPrimary =>
    if sl.alternate.fresh then { sl with state := .freshAlternate, effective := sl.alternate.value }
    else { sl with state := .held, holdTimer := some (now + Config.slotHoldUs) }
  | .alternate, .freshAlternate =>
    { sl with state := .held, holdTimer := some (now + Config.slotHoldUs) }
  | _, _ => sl

/-- An origin made EXPIRED with its timer stopped, its value and age base kept (R16, R17). -/
def Origin.expired (o : Origin) : Origin := { o with fresh := false, timer := none }

/-- An origin of a slot expires (R16, R17); one that was EXPIRED already changes nothing. -/
def slotExpire (now : Nat) (rank : Rank) (sl : Slot) : Slot :=
  if (sl.origin rank).fresh then
    slotExpired now rank (sl.setOrigin (sl.origin rank).expired rank)
  else sl

/-- A bus report with a value reaches a BUS origin (R15): `limitMs` is the staleness limit and `ageMs` the
report age, both in ms.  A report with no freshness left is stored, and expires a fresh origin. -/
def slotBusReport (now : Nat) (rank : Rank) (v : Value) (receivedMs limitMs ageMs : Nat) (sl : Slot) : Slot :=
  let o := { sl.origin rank with value := some v, ageBase := receivedMs }
  if ageMs < limitMs then
    slotFresh rank v
      (sl.setOrigin { o with fresh := true, timer := some (now + 1000 * (limitMs - ageMs)) } rank)
  else slotExpire now rank (sl.setOrigin { o with timer := none } rank)

/-- A report of the input unit to one origin of a slot, where that origin has the kind (R18, R28, R39):
the origin is FRESH and has no timer. -/
def slotInputReport (kind : OriginKind) (v : Value) (atMs : Nat) (rank : Rank) (sl : Slot) : Slot :=
  if (sl.origin rank).kind = kind then
    slotFresh rank v
      (sl.setOrigin { sl.origin rank with value := some v, ageBase := atMs, fresh := true } rank)
  else sl

/-- A report of the input unit to every origin of the kind (R25, R28). -/
def slotInputReports (kind : OriginKind) (v : Value) (atMs : Nat) (sl : Slot) : Slot :=
  slotInputReport kind v atMs .alternate (slotInputReport kind v atMs .primary sl)

/-- The hold timer runs out (R19, R20). -/
def slotLost (sl : Slot) : Slot :=
  if sl.state = .held then { sl with state := .lost, effective := none, holdTimer := none } else sl

/-! ## One field (R10 to R12) -/

/-- The bytes of a field in the order least significant first (R10). -/
def fieldBytes (e : SourceEntry) (data : List Byte) : List Nat :=
  let l := bytesFrom data e.startByte (fieldWidth e.fieldType)
  if e.bigEndian then l.reverse else l

/-- The raw field before any sign interpretation (R10). -/
def rawField (e : SourceEntry) (data : List Byte) : Nat :=
  if e.fieldType = 5 then (if bitOf (byteAt data e.startByte) e.bitNumber then 1 else 0)
  else fromLittle (fieldBytes e data)

/-- The not-available pattern of a field type (R11): U8, S8, U16, S16, U32, BIT. -/
def notAvailablePattern (fieldType : Nat) : Option Nat :=
  if fieldType = 0 then some 0xFF else if fieldType = 1 then some 0x80
  else if fieldType = 2 then some 0xFFFF else if fieldType = 3 then some 0x8000
  else if fieldType = 4 then some 0xFFFFFFFF else none

/-- The raw value: signed for S8 and S16 (R10, R12). -/
def rawValue (e : SourceEntry) (raw : Nat) : Int :=
  if e.fieldType = 1 then signedOf 8 raw else if e.fieldType = 3 then signedOf 16 raw else raw

/-- The scaled value of R12: floor(raw × multiplier / 2^shift) + offset. -/
def scaledValue (e : SourceEntry) (raw : Nat) : Int :=
  Int.fdiv (rawValue e raw * e.multiplier) (2 ^ e.shift) + e.offset

/-- The range of a signal whose values are set to the nearer end (introduction section 4, R12). -/
def rangeOf : Signal → Int × Int
  | .engineSpeed | .inputShaftSpeed => (0, 16383)
  | .engineTorque => (-2000, 6000)
  | .coolant => (-40, 215)
  | .vehicleSpeed => (0, 2500)
  | .clutchEngagement => (0, 100)
  | .calendar => (0, 4294967295)
  | .gear => (-1, 12)
  | .crank | .ignition | .gridSelect => (0, 1)

/-- A scaled value brought into its signal's range, and whether that counts as CLAMPED (R12). -/
def intoRange (sig : Signal) (v : Int) : Value × Bool :=
  match sig with
  | .gear => if -1 ≤ v ∧ v ≤ 12 then (.num v, false) else (.unknown, true)
  | .crank | .ignition | .gridSelect => (.num (if v = 0 then 0 else 1), false)
  | .engineSpeed | .engineTorque | .coolant | .inputShaftSpeed | .vehicleSpeed | .clutchEngagement
  | .calendar =>
    (.num (clampInt (rangeOf sig).1 (rangeOf sig).2 v),
      decide (v < (rangeOf sig).1) || decide ((rangeOf sig).2 < v))

/-- What one entry makes of a frame's data (R10 to R12): SHORT, not available, or a value with its
CLAMPED mark. -/
inductive Extracted where
  | short
  | notAvailable
  | value (v : Value) (clamped : Bool)
  deriving DecidableEq, Repr

/-- The extraction of one entry's field for its signal. -/
def extract (e : SourceEntry) (sig : Signal) (length : Nat) (data : List Byte) : Extracted :=
  if length < requiredLength e then .short
  else if notAvailablePattern e.fieldType = some (rawField e data) then .notAvailable
  else .value (intoRange sig (scaledValue e (rawField e data))).1
    (intoRange sig (scaledValue e (rawField e data))).2

/-- The health counts after an extraction (R10 to R13). -/
def Health.count (h : Health) : Extracted → Health
  | .short => { h with short := capAdd ceiling16 h.short 1 }
  | .notAvailable => { h with notAvailable := capAdd ceiling16 h.notAvailable 1 }
  | .value _ clamped =>
    { h with
      applied := capAdd ceiling16 h.applied 1
      clamped := if clamped then capAdd ceiling16 h.clamped 1 else h.clamped }

end Sys2Proof.Machine
end

