-- ==== Sys2Proof/Machine/Layout.lean ====
section
/-! DEFINITION. The layouts of sent frames and streamed records (R188, sections 13.2 and 13.3).  Bits to
which a layout gives no content are the free value of log entry 1; answers that carry the result
alone have zero bytes 3 to 7. -/

namespace Sys2Proof.Machine

/-- The results (R164, section 13.2). -/
inductive Result where
  | done | queued | busy | notFound | outOfRange | hireOpen | noHire | wrongHire | storeFault
  | unknownRequest | aborted | linkLost
  deriving DecidableEq, Repr

/-- The result codes of section 13.2. -/
def Result.code : Result → Nat
  | .done => 0 | .queued => 1 | .busy => 2 | .notFound => 3 | .outOfRange => 4 | .hireOpen => 5
  | .noHire => 6 | .wrongHire => 7 | .storeFault => 8 | .unknownRequest => 9 | .aborted => 10
  | .linkLost => 11

/-- An answer that carries its result alone (section 13.2). DEDUCED: log entry 13. -/
def plainAnswer (kind token : Nat) (r : Result) : OutFrame :=
  { offset := 0x30, kind := .answer
    data := [BitVec.ofNat 8 kind, BitVec.ofNat 8 token, BitVec.ofNat 8 r.code, 0, 0, 0, 0, 0] }

/-- The answer to a RESTART request, which the mode controller waits to see sent (R186). -/
def restartAnswer (token : Nat) : OutFrame := { plainAnswer 8 token .done with kind := .restartAnswer }

/-- A second frame of a two-frame answer: eight payload bytes. -/
def payloadAnswer (bytes : List Byte) : OutFrame := { offset := 0x30, kind := .answer, data := bytes }

/-- The code of a hire state in byte 3 of the STATUS answer. -/
def hireStateCode : HireState → Nat
  | .noHire => 0 | .opened => 1 | .closing => 2

/-- The code of a profile state in byte 3 of the STATUS answer. -/
def profileStateCode : ProfileState → Nat
  | .good => 0 | .adjusted => 1 | .fallback => 2

/-- The code of a store state in byte 4 of the STATUS answer.  No request is taken while the store is
RECOVERING. -/
def storeStateCode : StoreState → Nat
  | .recovering | .normal => 0 | .quiesced => 1 | .faulted => 2

/-- The two frames of a STATUS answer (R166).  One executed in BUS OFF, taken before its entry, shows ERROR
PASSIVE 0, as ERROR ACTIVE does. DESIGN CHOICE: log entry 53. -/
def statusAnswer (s : State) (token : Nat) : List OutFrame :=
  let b3 := flagAt (s.control.mode == .attend) 0 + 2 * hireStateCode s.hire.state
    + flagAt s.hire.pendingMark 3 + 16 * profileStateCode s.control.profileState
    + flagAt (s.link.state == .errorPassive) 6 + flagAt s.link.warning 7
  let b4 := storeStateCode s.store.state + flagAt s.store.waitFinal.isSome 2
    + flagAt s.store.waitHire 3 + flagAt s.store.waitJournal 4 + flagAt s.store.waitCheckpoint.isSome 5
    + flagAt s.stream.running.isSome 6 + flagAt s.stream.continuation.isSome 7
  [ { offset := 0x30, kind := .answer
      data := [1, BitVec.ofNat 8 token, BitVec.ofNat 8 (16 * s.journal.staging.length),
        BitVec.ofNat 8 b3, BitVec.ofNat 8 b4, openByte s.free 0 1 (flagAt s.server.holdTimer.isSome 0)]
        ++ toLittle 2 s.store.failureCount },
    payloadAnswer (toLittle 2 s.profile.unitSerial ++ toLittle 2 s.intake.refusals
      ++ toLittle 2 s.intake.overruns ++ toLittle 2 s.link.busOffCount) ]

/-- A READ COUNTER answer with a value (R93, R167). -/
def counterAnswer (s : State) (token scope number value : Nat) (sat : Bool) : OutFrame :=
  { offset := 0x30, kind := .answer
    data := [2, BitVec.ofNat 8 token, openByte s.free 1 0x1F (flagAt sat 4),
      BitVec.ofNat 8 (number + 64 * scope)] ++ toLittle 4 value }

/-- The slot state code of the READ SOURCE answer. -/
def slotStateCode : SlotState → Nat
  | .never => 0 | .freshPrimary => 1 | .freshAlternate => 2 | .held => 3 | .lost => 4

/-- The value bytes of the READ SOURCE answer: the last value, signed; with no number to show they are
open (log entry 1). -/
def valueBytes (s : State) : Option Value → List Byte
  | some (.num v) => toLittleSigned32 v
  | _ => openBytes s.free 2 4

/-- The two frames of a READ SOURCE answer for a valid entry (R168).  For a REJECT entry, whose origin fields
are marked none, FRESH, value present, UNKNOWN and the slot state bits are all 0. DESIGN CHOICE: log
entry 46. -/
def sourceAnswer (s : State) (token : Nat) (i : Fin 16) (e : SourceEntry) : List OutFrame :=
  let slot := (s.board.slots[e.signalCode]?).getD (.reset { primary := .none, alternate := .none })
  let origin := if e.alternate then slot.alternate else slot.primary
  let health := s.intake.health[i]
  if e.reject then
    [ { offset := 0x30, kind := .answer
        data := [3, BitVec.ofNat 8 token, BitVec.ofNat 8 (16 * e.signalCode),
          BitVec.ofNat 8 (1 + flagAt e.alternate 1)] ++ valueBytes s none },
      payloadAnswer (toLittle 8 0) ]
  else
    [ { offset := 0x30, kind := .answer
        data := [3, BitVec.ofNat 8 token, BitVec.ofNat 8 (16 * e.signalCode),
          BitVec.ofNat 8 (flagAt e.alternate 1 + flagAt origin.fresh 2 + flagAt origin.value.isSome 3
            + flagAt (origin.value == some .unknown) 4 + 32 * slotStateCode slot.state)]
          ++ valueBytes s origin.value },
      payloadAnswer (toLittle 2 health.applied ++ toLittle 2 health.short
        ++ toLittle 2 health.notAvailable ++ toLittle 2 health.clamped) ]

/-- A SERVICE DONE answer (R92, R169): it shows the member as received, whatever its result. -/
def serviceAnswer (s : State) (token : Nat) (member : Byte) (r : Result) : OutFrame :=
  { offset := 0x30, kind := .answer
    data := [6, BitVec.ofNat 8 token, openByte s.free 6 0x0F r.code, member] ++ openBytes s.free 7 4 }

/-- An answer to a HIRE CONTROL frame: 0x10 plus the operation, and the hire number as received, given as
its four bytes.  The sum is kept modulo 256. DESIGN CHOICE: log entry 45. -/
def hireAnswer (s : State) (operation token : Nat) (number : List Byte) (r : Result) : OutFrame :=
  { offset := 0x30, kind := .answer
    data := [BitVec.ofNat 8 (0x10 + operation), BitVec.ofNat 8 token, openByte s.free 11 0x0F r.code]
      ++ number ++ openBytes s.free 12 1 }

/-- A STREAM END answer (R172, section 13.2). -/
def streamEnd (s : State) (token : Nat) (r : Result) (tag hire : Bool) (sent : Nat)
    (last : Option Nat) : OutFrame :=
  { offset := 0x30, kind := .answer
    data := [0x20, BitVec.ofNat 8 token,
      openByte s.free 13 0x7F (r.code + flagAt tag 4 + flagAt hire 5 + flagAt last.isSome 6),
      BitVec.ofNat 8 sent]
      ++ (match last with | some n => toLittle 4 n | none => openBytes s.free 14 4) }

/-- The source number of a presented notice in frames, 0xFF for none. -/
def presentedByte : Option (Fin 14) → Byte
  | some n => BitVec.ofNat 8 n.val
  | none => 0xFF#8

/-- The pending set: bit n for source n. -/
def pendingSet (cond : Vector Bool 14) : Nat :=
  ((List.finRange 14).map fun i => flagAt cond[i] i.val).sum

/-- The level of the presented source, 0 when none (R148). -/
def presentedLevel (s : State) : Nat :=
  match s.notices.presented with
  | some n => levelOf s.profile n
  | none => 0

/-- A NOTICE frame built from the arbiter's state (R148). -/
def noticeFrame (s : State) : OutFrame :=
  { offset := 0x20, kind := .notice
    data := [presentedByte s.notices.presented,
      openByte s.free 18 0x7F (presentedLevel s % 8 + flagAt s.notices.lamp 3
        + 16 * (s.profile.maskLevel % 8)),
      BitVec.ofNat 8 (pendingSet s.notices.conditions),
      openByte s.free 19 0x3F (pendingSet s.notices.conditions / 256)] }

/-- The code of a start machine state in SUMMARY page 7. -/
def startStateCode : StartState → Nat
  | .stopped => 0 | .cranking => 1 | .confirming => 2 | .running => 3

/-- A SUMMARY page of two counts. -/
def pairPage (a b : Nat) : List Byte := toLittle 4 a ++ toLittle 4 b

/-- The eight bytes of a SUMMARY page (section 11.5, section 13.2). -/
def pageBytes (s : State) : Nat → List Byte
  | 0 => pairPage (s.life .runTime) (s.life .startAttempts)
  | 1 => pairPage (s.life .equivalentTime) (s.life .starterUnits)
  | 2 => pairPage (s.life .clutchWork) (s.life .engagements)
  | 3 => pairPage (s.life .shifts) (s.life .misuseReverses)
  | 4 => pairPage (s.life .forwardRevolutions) (s.life .distance)
  | 5 =>
    match s.hire.state, s.hire.header with
    | .opened, some h => pairPage h.number (s.hireCount .runTime)
    | _, _ => pairPage 0 0
  | 6 =>
    ((List.finRange 5).map fun m => BitVec.ofNat 8 (wearFraction s.profile.limits s.table m))
      ++ [openByte s.free 20 0x1F (((List.finRange 5).map fun m => flagAt s.table.due[m] m.val).sum),
          presentedByte s.notices.presented] ++ openBytes s.free 21 1
  | _ =>
    toLittle 4 s.control.partSeconds
      ++ [openByte s.free 22 0x07 (startStateCode s.start.state + flagAt s.start.assumed 2)]
      ++ openBytes s.free 23 3

/-- A cyclic SUMMARY page frame. -/
def pageFrame (s : State) (n : Nat) : OutFrame :=
  { offset := 0x40 + n, kind := .summary, data := pageBytes s n }

/-- The two frames of a page answer (R178): the header carries the page number in place of a token. -/
def pageAnswer (s : State) (n : Nat) : List OutFrame :=
  [ { offset := 0x30, kind := .answer
      data := [0x30, BitVec.ofNat 8 n, openByte s.free 26 0x0F 0] ++ openBytes s.free 27 5 },
    payloadAnswer (pageBytes s n) ]

/-! ## Streamed records (section 13.3) -/

/-- The 21 bytes of a journal entry; for SERVICE DUE and SERVICE DONE byte 19 is value2 and byte 20 the
member. DEDUCED: log entry 32. -/
def entryBytes (e : Entry) : List Byte :=
  toLittle 2 e.seq
    ++ [BitVec.ofNat 8 (e.kind.code + flagAt e.calendar.isSome 5 + 64 * e.kind.severity)]
    ++ toLittle 4 e.partSeconds ++ toLittle 4 (e.calendar.getD 0)
    ++ (match e.hire with
        | some t => toLittle 4 t.number ++ toLittle 2 t.serial
        | none => toLittle 6 0)
    ++ toLittle 2 e.value1
    ++ (match e.member with
        | some m => [BitVec.ofNat 8 e.value2, BitVec.ofNat 8 m]
        | none => toLittle 2 e.value2)

/-- The 210 bytes of a hire record; `mark` is 0 RETAINED, 1 UNWRITTEN, 2 LIVE. DEDUCED: log entry 32. -/
def hireBytes (free mark : Nat) (r : HireRecord) : List Byte :=
  [BitVec.ofNat 8 mark,
    openByte free 32 0x0F (flagAt r.storeFault 0 + flagAt r.journalDrop 1
      + flagAt r.openedCalendar.isSome 2 + flagAt r.closedCalendar.isSome 3)]
    ++ toLittle 4 r.number ++ toLittle 2 r.serial
    ++ toLittle 4 r.openedSeconds ++ toLittle 4 (r.openedCalendar.getD 0)
    ++ toLittle 4 r.closedSeconds ++ toLittle 4 (r.closedCalendar.getD 0)
    ++ ((List.finRange 45).map fun i => toLittle 4 r.counts[i]).flatten
    ++ toLittle 4 r.counts[46] ++ toLittle 2 0

/-- Byte 0 of a STREAM frame: frame index modulo 128, and the stream tag in bit 7. -/
def streamHead (tag : Bool) (index : Nat) : Byte := BitVec.ofNat 8 (index % 128 + flagAt tag 7)

/-- An item cut into `n` STREAM frames of seven bytes each from frame count `index` on; the last one
closes the item (R172). -/
def cutItem (tag : Bool) (last : StreamPart) : Nat → Nat → List Byte → List OutFrame
  | 0, _, _ => []
  | n + 1, index, bytes =>
    { offset := 0x50, kind := .stream (if n = 0 then last else .inside) true
      data := streamHead tag index :: bytes.take 7 } :: cutItem tag last n (index + 1) (bytes.drop 7)

/-- The identifier of an outgoing frame: the base identifier plus its offset in the block (R150). -/
def OutFrame.identifier (base : BitVec 32) (f : OutFrame) : BitVec 32 := base + BitVec.ofNat 32 f.offset

end Sys2Proof.Machine
end

