-- ==== Sys2Proof/Machine/Port.lean ====
section
/-! DEFINITION. The array-port arbiter, the store's triggers and the creation of journal entries (R100,
R110 to R116, R120, R124 to R127, R132). -/

namespace Sys2Proof.Machine

/-! ## Searching slots -/

/-- The element of least key, the first such where several share it. -/
def leastBy {α : Type} : List (α × Nat) → Option (α × Nat)
  | [] => none
  | x :: l =>
    match leastBy l with
    | none => some x
    | some y => if x.2 ≤ y.2 then some x else some y

/-- The valid journal slots with their entries, in slot order. -/
def validEntries (t : Vector (Option Entry) 256) : List (Fin 256 × Entry) :=
  (List.finRange 256).filterMap fun i => (t[i]).map fun e => (i, e)

/-- The slot of the entry with the lowest sequence number among those that pass a test. -/
def oldestWhere (t : Vector (Option Entry) 256) (p : Entry → Bool) : Option (Fin 256) :=
  (leastBy (((validEntries t).filter fun x => p x.2).map fun x => (x.1, x.2.seq))).map (·.1)

/-- The lowest-numbered free journal slot (R116). -/
def freeSlot (t : Vector (Option Entry) 256) : Option (Fin 256) :=
  (List.finRange 256).find? fun i => (t[i]).isNone

/-- The lowest severity among the unsettled entries below a severity (R116, step 3). -/
def lowestSeverityBelow (hire : HireControl) (t : Vector (Option Entry) 256) (sev : Nat) : Option Nat :=
  let has := fun n => (validEntries t).any fun x => !settled hire x.2 && x.2.kind.severity == n
  if 1 < sev && has 1 then some 1 else if 2 < sev && has 2 then some 2 else none

/-- The slot for an entry (R116): a free slot, the oldest settled entry's, or the oldest unsettled
entry's of the lowest severity below the entry's own; `none` where the entry is dropped. -/
def chooseSlot (hire : HireControl) (t : Vector (Option Entry) 256) (e : Entry) : Option (Fin 256) :=
  match freeSlot t with
  | some i => some i
  | none =>
    match oldestWhere t (settled hire) with
    | some i => some i
    | none =>
      match lowestSeverityBelow hire t e.kind.severity with
      | some n => oldestWhere t fun x => !settled hire x && x.kind.severity == n
      | none => none

/-- The retained entry with the lowest sequence number at or above a bound, with its slot (R120). -/
def entryFrom (t : Vector (Option Entry) 256) (bound : Nat) : Option (Fin 256 × Entry) :=
  match oldestWhere t fun e => decide (bound ≤ e.seq) with
  | some i => (t[i]).map fun e => (i, e)
  | none => none

/-- The key by which the oldest history record is found: by write number, and of two equal ones the
higher-numbered slot is the older (R122). -/
def historyKey (i : Fin 8) (r : RetainedHire) : Nat := 8 * r.writeNo + (7 - i.val)

/-- The valid history slots with their records, in slot order. -/
def validHistory (h : Vector (Option RetainedHire) 8) : List (Fin 8 × RetainedHire) :=
  (List.finRange 8).filterMap fun i => (h[i]).map fun r => (i, r)

/-- The history slot for a record (R100): the lowest invalid slot, or else the oldest record's. -/
def chooseHistorySlot (h : Vector (Option RetainedHire) 8) : Fin 8 :=
  match (List.finRange 8).find? fun i => (h[i]).isNone with
  | some i => i
  | none =>
    match leastBy ((validHistory h).map fun x => (x.1, historyKey x.1 x.2)) with
    | some x => x.1
    | none => 0

/-- The newest valid history record that passes a test, with its slot (R105). -/
def newestHistory (h : Vector (Option RetainedHire) 8) (p : HireRecord → Bool) :
    Option (Fin 8 × RetainedHire) :=
  ((validHistory h).filter fun x => p x.2.record).foldl
    (fun best x =>
      match best with
      | none => some x
      | some y => if historyKey y.1 y.2 < historyKey x.1 x.2 then some x else some y) none

/-! ## Waiting jobs -/

/-- Queues a JOURNAL job where entries are staged and none waits (R113); a FAULTED store discards the
trigger (R125). -/
def queueJournal (s : State) : State :=
  if s.journal.staging ≠ [] ∧ s.store.waitJournal = false ∧ s.store.state ≠ .faulted then
    (s.setStore { s.store with waitJournal := true }).stopPark
  else s

/-- The end of a JOURNAL job that no failure ended (R115, R130): with a verified write the consecutive
failed jobs become 0; what remains staged asks for the next job. -/
def endJournalJob (wrote : Bool) (s : State) : State :=
  queueJournal (s.setStore { s.store with
    journalJob := none, failedJobs := if wrote then 0 else s.store.failedJobs })

/-- Removes an entry from the staging list. -/
def unstage (seq : Nat) (s : State) : State :=
  s.setJournal { s.journal with staging := s.journal.staging.filter fun e => e.seq != seq }

/-! ## The arbiter (R126) -/

/-- Grants the port to the waiting FINAL CHECKPOINT job, which then takes its snapshot (R129). -/
def grantFinal (j : FinalJob) (s : State) : State :=
  s.setStore { s.store with
    waitFinal := none
    port := .snapshot { final := true, kind := .final, forPark := j.forPark, forRestart := j.forRestart } }

/-- Grants the port to the waiting CHECKPOINT job. -/
def grantCheckpoint (j : CheckpointJob) (s : State) : State :=
  s.setStore { s.store with
    waitCheckpoint := none
    port := .snapshot { final := false, kind := j.kind, forPark := j.forPark, forRestart := j.forRestart } }

/-- The least sequence number the next item of a journal stream may have, and the number that stands
for the previous item in the test of R189. -/
def nextItemBound (r : RunningStream) : Nat × Nat :=
  match r.kind, r.previous with
  | .journal _ _, some p => (p + 1, p)
  | .journal start _, none => (start, start)
  | .hire _, _ => (0, 0)

/-- The running stream has no further item (R172). -/
def noFurtherItem (s : State) : State :=
  match s.stream.running with
  | some r => s.setStream { s.stream with running := some { r with noMore := true } }
  | none => s

/-- Grants a pending journal item read: the entry is chosen now (R120, R127).  With no entry, or one
65,536 or more above the previous item (R189), the stream has no further item and the port stays
free. DESIGN CHOICE: log entry 47. -/
def grantJournalRead (s : State) : State :=
  let s' := s.setStore { s.store with readPending := none }
  match s.stream.running with
  | none => s'
  | some r =>
    match entryFrom s.store.journal (nextItemBound r).1 with
    | none => noFurtherItem s'
    | some (i, e) =>
      if 65536 ≤ e.seq - (nextItemBound r).2 then noFurtherItem s'
      else s'.setStore { s'.store with port := .journalRead i true }

/-- Grants a pending history item read. -/
def grantHireRead (slot : Fin 8) (s : State) : State :=
  s.setStore { s.store with readPending := none, port := .hireRead slot true }

/-- Starts the waiting HIRE RECORD job (R100): the record of the closing buffer goes to the chosen slot,
whose old content is gone, with the next record write number; with nothing pending the job ends at
once. DEDUCED: log entry 27. -/
def startHireRecord (s : State) : State :=
  match s.hire.buffer with
  | some r =>
    if s.hire.pendingMark then
      s.setStore { s.store with
        waitHire := false
        history := s.store.history.set (chooseHistorySlot s.store.history) none
        nextWriteNo := min ceiling (s.store.nextWriteNo + 1)
        port := .hireRecord (chooseHistorySlot s.store.history)
          { writeNo := s.store.nextWriteNo, record := r } }
    else s.setStore { s.store with waitHire := false }
  | none => s.setStore { s.store with waitHire := false }

/-- The next entry of the JOURNAL job in progress (R115, R116): its slot is chosen and the victim is
gone, or the entry is dropped at its write. DEDUCED: log entry 27. -/
def continueJournal (j : JournalJob) (s : State) : State :=
  match j.list with
  | [] => endJournalJob j.wrote s
  | e :: rest =>
    match chooseSlot s.hire s.store.journal e with
    | some i =>
      s.setStore { s.store with
        journal := s.store.journal.set i none
        journalJob := some { j with list := rest }
        port := .journalEntry i e }
    | none =>
      let s := (unstage e.seq s).countDrop
      let s := s.setStore { s.store with journalJob := some { j with list := rest } }
      if rest = [] then endJournalJob j.wrote s else s

/-- Starts the waiting JOURNAL job with the entries staged now as its list (R115). -/
def startJournal (s : State) : State :=
  continueJournal { list := s.journal.staging, wrote := false }
    (s.setStore { s.store with
      waitJournal := false, journalJob := some { list := s.journal.staging, wrote := false } })

/-- Whether a waiting FINAL CHECKPOINT or a JOURNAL job in progress may go on (R126). -/
def Store.jobsGoOn (st : Store) : Bool := st.state == .normal || st.state == .quiesced

/-- Whether stream item reads are served (R126). -/
def Store.readsServed (st : Store) : Bool := st.state == .normal || st.state == .faulted

/-- One choice of the arbiter: the first pending candidate in the order of preference of R126 that the
store state lets start. -/
def choosePort (s : State) : State :=
  match s.store.waitFinal, s.store.readPending, s.store.journalJob, s.store.waitCheckpoint with
  | final, read, job, ckpt =>
    if s.store.jobsGoOn && final.isSome then
      match final with | some j => grantFinal j s | none => s
    else if s.store.readsServed && read.isSome then
      match read with | some .journal => grantJournalRead s | some (.hire i) => grantHireRead i s | none => s
    else if s.store.state == .normal && s.store.waitHire then startHireRecord s
    else if s.store.jobsGoOn && job.isSome then
      match job with | some j => continueJournal j s | none => s
    else if s.store.state == .normal && s.store.waitJournal then startJournal s
    else if s.store.state == .normal && ckpt.isSome then
      match ckpt with | some j => grantCheckpoint j s | none => s
    else s

/-- The arbiter (R126): it chooses while the port is free and work is pending.  A choice that leaves the
port free (nothing to write, every entry dropped, no further item) is followed by another. -/
def grantLoop : Nat → State → State
  | 0, s => s
  | n + 1, s => if s.store.port = .free then grantLoop n (choosePort s) else s

/-- Grants the port where it is free: 64 choices are more than the jobs and entries that can end
without a write at one moment. DEDUCED: log entry 31. -/
def grantPort (s : State) : State := grantLoop 64 s

/-! ## Triggers (R124, R125) -/

/-- A CHECKPOINT trigger folded into the waiting job (R124).  A PARK or RESTART trigger that arrives in
NORMAL asks for a checkpoint of its own, so the job is no longer one that a FINAL CHECKPOINT stands
for. DEDUCED: log entry 29. -/
def foldCheckpoint (kind : CheckpointKind) (forPark forRestart : Bool) :
    Option CheckpointJob → CheckpointJob
  | none => { kind := kind, forPark := forPark, forRestart := forRestart, stoodFor := false }
  | some j =>
    { kind := if j.kind.rank < kind.rank then kind else j.kind
      forPark := j.forPark || forPark
      forRestart := j.forRestart || forRestart
      stoodFor := j.stoodFor && !(forPark || forRestart) }

/-- Makes a CHECKPOINT job wait. -/
def queueCheckpoint (kind : CheckpointKind) (forPark forRestart : Bool) (s : State) : State :=
  (s.setStore { s.store with
    waitCheckpoint := some (foldCheckpoint kind forPark forRestart s.store.waitCheckpoint) }).stopPark

/-- Whether a FINAL CHECKPOINT job holds the port. -/
def finalInProgress : Port → Bool
  | .snapshot j => j.final
  | .checkpoint j _ => j.final
  | _ => false

/-- A checkpoint job in progress that now also stands for a PARK or RESTART trigger (R132). -/
def standInPort (forPark forRestart : Bool) : Port → Port
  | .snapshot j => .snapshot { j with forPark := j.forPark || forPark, forRestart := j.forRestart || forRestart }
  | .checkpoint j c => .checkpoint { j with forPark := j.forPark || forPark, forRestart := j.forRestart || forRestart } c
  | p => p

/-- A PARK or RESTART trigger in QUIESCED (R132): a FINAL CHECKPOINT job, waiting, in progress or new,
stands for it; where one is in progress and another one waits, the waiting one. DEDUCED: log entry 29;
DESIGN CHOICE: log entry 42. -/
def standForTrigger (forPark forRestart : Bool) (s : State) : State :=
  match s.store.waitFinal with
  | some f =>
    s.setStore { s.store with
      waitFinal := some { forPark := f.forPark || forPark, forRestart := f.forRestart || forRestart } }
  | none =>
    if finalInProgress s.store.port then
      s.setStore { s.store with port := standInPort forPark forRestart s.store.port }
    else
      (s.setStore { s.store with
        waitFinal := some { forPark := forPark, forRestart := forRestart } }).stopPark

/-- A PERIODIC or EVENT trigger (R124, R125). -/
def checkpointTrigger (kind : CheckpointKind) (s : State) : State :=
  if s.store.state = .faulted then s else grantPort (queueCheckpoint kind false false s)

/-- A PARK trigger; a FAULTED store discards it, and its sender acts on that (R125). -/
def parkTrigger (s : State) : State :=
  if s.store.state = .faulted then s
  else if s.store.state = .quiesced then grantPort (standForTrigger true false s)
  else grantPort (queueCheckpoint .park true false s)

/-- A RESTART trigger; a FAULTED store discards it, and its sender acts on that (R125). -/
def restartTrigger (s : State) : State :=
  if s.store.state = .faulted then s
  else if s.store.state = .quiesced then grantPort (standForTrigger false true s)
  else grantPort (queueCheckpoint .restart false true s)

/-! ## Creating an entry (R110 to R113) -/

/-- The hire fields an entry created now carries (R95, R108). -/
def State.hireTag (s : State) : Option HireTag :=
  match s.hire.header with
  | some h => if s.hireOpen then some { number := h.number, serial := h.serial } else none
  | none => none

/-- The entry that a creating block's data completes to (R111). -/
def State.makeEntry (s : State) (kind : EntryKind) (member : Option Nat) (v1 v2 : Nat) : Entry :=
  { seq := s.journal.nextSeq, kind := kind, partSeconds := s.control.partSeconds
    calendar := s.calendarNow, hire := s.hireTag, member := member
    value1 := min ceiling16 v1, value2 := min ceiling16 v2 }

/-- Stages a journal entry: it takes the next sequence number and is staged, or dropped where the staging
list is full or the number space is exhausted (R110, R111, R112); a staged entry that finds no
JOURNAL job waiting queues one (R113). -/
def stageEntry (kind : EntryKind) (member : Option Nat) (v1 v2 : Nat) (s : State) : State :=
  if ceiling ≤ s.journal.nextSeq then s.countDrop
  else if s.journal.staging.length < Config.stagingPlaces then
    queueJournal (s.setJournal
      { staging := s.journal.staging ++ [s.makeEntry kind member v1 v2]
        nextSeq := s.journal.nextSeq + 1 })
  else (s.setJournal { s.journal with nextSeq := s.journal.nextSeq + 1 }).countDrop

/-- Creates a journal entry: it is staged, and the arbiter grants a free port (R111, R113, R126). -/
def createEntry (kind : EntryKind) (member : Option Nat) (v1 v2 : Nat) (s : State) : State :=
  grantPort (stageEntry kind member v1 v2 s)

end Sys2Proof.Machine
end

