-- ==== Sys2Proof/Machine/Link.lean ====
section
/-! DEFINITION. The link unit's outgoing side: reserved places (R163), held answers (R165), the choice of
the next frame (R158, R159), the handing of STREAM frames (R172), and the error account (R152 to
R157, R160). -/

namespace Sys2Proof.Machine

/-! ## Places of the ANSWER queue -/

/-- The answer size of a request (R163).  A REQUEST frame without data carries no kind; its absent byte is
read as 0, which has one place. DESIGN CHOICE: log entry 44. -/
def answerSize (r : Request) : Nat :=
  match r.frame with
  | .page _ => 2
  | .hireControl | .hold => 1
  | .request => if byteAt r.data 0 = 1 ∨ byteAt r.data 0 = 3 ∨ byteAt r.data 0 = 7 then 2 else 1

/-- The places reserved by the requests of the request list. -/
def State.reserved (s : State) : Nat := (s.server.requests.map answerSize).sum

/-- The free places of the ANSWER queue. -/
def State.freePlaces (s : State) : Nat := Config.answerPlaces - s.link.answers.length

/-- The available places at a reception (R163). -/
def State.availablePlaces (s : State) : Nat := s.freePlaces - s.reserved - s.server.held.length

/-- Held answers placed one by one while the free places exceed the reserved ones (R165). -/
def drainInto (reserved : Nat) : List OutFrame → List OutFrame → List OutFrame × List OutFrame
  | [], answers => ([], answers)
  | f :: held, answers =>
    if reserved < Config.answerPlaces - answers.length then drainInto reserved held (answers ++ [f])
    else (f :: held, answers)

/-- Places held answers where places are free (R165). DEDUCED: log entry 16. -/
def drainHeld (s : State) : State :=
  let r := drainInto s.reserved s.server.held s.link.answers
  (s.setServer { s.server with held := r.1 }).setLink { s.link with answers := r.2 }

/-! ## Taking part and choosing a frame -/

/-- Whether the part takes part in the bus (R161). -/
def State.onBus (s : State) : Bool := s.link.participation == .joined && s.awake

/-- Whether the part may send (R159). -/
def State.maySend (s : State) : Bool := s.onBus && s.link.state != .busOff

/-- Whether an attempt from before the entry into PARKED or a DEPOT RESTART may still be on the bus. -/
def Participation.lingers : Participation → Bool
  | .leaving | .rejoining => true
  | .apart | .joining | .joined => false

/-- The part's place on the bus once a lingering attempt has ended. -/
def Participation.cleared : Participation → Participation
  | .leaving => .apart
  | .rejoining => .joining
  | p => p

/-- Whether an attempt of the frame in the transmitter can end now: while the part may send, and once
more after the entry into PARKED or a DEPOT RESTART (R161, R162). -/
def State.attempting (s : State) : Bool :=
  s.maySend || (s.link.participation.lingers && s.link.state != .busOff)

/-- An attempt has ended, and with it one that lingers (R161). DEDUCED: log entry 17. -/
def attemptEnded (l : Link) : Link := { l with participation := l.participation.cleared }

/-- The least gap after a STREAM frame by the pacing counter (R159). -/
def leastGap (pacing : Nat) : Nat := if pacing = 0 then Config.gapUs else Config.pacedGapUs

/-- Whether the least gap has passed since the last STREAM frame (R159, R162). -/
def State.gapPassed (s : State) : Bool :=
  match s.link.lastStreamEnd with
  | some t => decide (t + leastGap s.link.pacing ≤ s.clock.now)
  | none => true

/-- Whether the STREAM queue is eligible (R159). -/
def State.streamEligible (s : State) : Bool :=
  s.server.holdTimer.isNone && s.store.state != .quiesced && s.gapPassed

/-- The engine asks for the next item once the last frame of one has been handed (R172): no further item
when the count has been handed, or for a hire stream, which has one item. -/
def askNext (r : RunningStream) (s : State) : State :=
  match r.kind with
  | .journal _ count =>
    if count ≤ r.handed then noFurtherItem s
    else grantPort (s.setStore { s.store with readPending := some .journal })
  | .hire _ => noFurtherItem s

/-- Hands the next frame of the item to the STREAM queue when that is empty (R158, R172). -/
def handStream (s : State) : State :=
  match s.stream.running with
  | none => s
  | some r =>
    match s.link.stream, r.waiting with
    | none, f :: rest =>
      let r := { r with waiting := rest, frames := r.frames + 1 }
      let s := (s.setLink { s.link with stream := some f }).setStream { s.stream with running := some r }
      if rest = [] then askNext r s else s
    | _, _ => s

/-- Puts a frame into the empty transmitter with attempt count 0 (R153). -/
def loadTransmitter (f : OutFrame) (l : Link) : Link :=
  { l with transmitter := some { frame := f, attempts := 0 } }

/-- Takes the first frame by queue order ANSWER, NOTICE, SUMMARY, STREAM into the empty transmitter while
the part may send (R159).  A place freed in the ANSWER queue goes to a held answer (R165), and the
stream engine hands the next frame into an emptied STREAM queue (R172). -/
def takeFrame (s : State) : State :=
  if s.link.transmitter.isSome || !s.maySend then s
  else
    match s.link.answers, s.link.notice, s.link.summary, s.link.stream with
    | f :: rest, _, _, _ => drainHeld (s.setLink (loadTransmitter f { s.link with answers := rest }))
    | [], some f, _, _ => s.setLink (loadTransmitter f { s.link with notice := none })
    | [], none, some f, _ => s.setLink (loadTransmitter f { s.link with summary := none })
    | [], none, none, some f =>
      if s.streamEligible then handStream (s.setLink (loadTransmitter f { s.link with stream := none }))
      else s
    | [], none, none, none => s

/-- Places answer frames in their reserved places (R164) and tests the queues. -/
def placeAnswers (fs : List OutFrame) (s : State) : State :=
  takeFrame (s.setLink { s.link with answers := s.link.answers ++ fs })

/-- An answer owed without a reserved place (R165): it goes behind the held ones and is placed where the
free places exceed the reserved ones. -/
def oweAnswer (f : OutFrame) (s : State) : State :=
  takeFrame (drainHeld (s.setServer { s.server with held := s.server.held ++ [f] }))

/-- Offers a NOTICE frame: it replaces the one waiting (R158). -/
def offerNotice (f : OutFrame) (s : State) : State := takeFrame (s.setLink { s.link with notice := some f })

/-- Offers a SUMMARY page: it replaces the one waiting (R158). -/
def offerSummary (f : OutFrame) (s : State) : State :=
  takeFrame (s.setLink { s.link with summary := some f })

/-! ## Error account -/

/-- REC after a receive error (R152). -/
def raiseRec (dominantAfterFlag : Bool) (l : Link) : Link :=
  confine { l with recCount := min 255 (l.recCount + (if dominantAfterFlag then 8 else 1)) }

/-- The error flag of the link state (R152, R155). -/
def errorFlag (l : Link) : BusDrive :=
  if l.state = .errorActive then .dominantFlag else .recessiveFlag

/-- REC after a received frame, and the acknowledgement (R151, R152). -/
def acceptFrame (l : Link) : Link :=
  confine { l with recCount := l.recCount - 1, drive := .acknowledge }

/-- The pacing counter after an unsuccessful attempt: loaded at the fourth or later one, and at a
transmit error in ERROR PASSIVE (R160). -/
def pacingAfterFailure (attempts pacing : Nat) (passiveError : Bool) : Nat :=
  if 4 ≤ attempts || passiveError then Config.pacingLoad else pacing

/-- The pacing counter after a success at a given attempt (R160). -/
def pacingAfterSuccess (attempts pacing : Nat) : Nat := if attempts = 1 then pacing - 1 else pacing

/-- The link's entry into BUS OFF (R156, steps 1 to 3 and 5): a STREAM frame in the transmitter and the
STREAM queue are discarded, another frame stays with attempt count 0. -/
def enterBusOff (l : Link) : Link :=
  { l with
    busOffCount := capAdd ceiling16 l.busOffCount 1
    transmitter := match l.transmitter with
      | some t =>
        match t.frame.kind with
        | .stream _ _ => none
        | _ => some { t with attempts := 0 }
      | none => none
    stream := none
    recovery := 0
    state := .busOff
    warning := false
    tec := none }

end Sys2Proof.Machine
end

