-- ==== Sys2Proof/Machine/Notices.lean ====
section
/-! DEFINITION. The notice arbiter: conditions (R138 to R141), the choice (R143 to R146), LAMP (R147) and
NOTICE frames (R148, R149). -/

namespace Sys2Proof.Machine

/-- A source is eligible when its condition is pending and its level exceeds the mask level (R143). -/
def eligible (p : Profile) (cond : Vector Bool 14) (n : Fin 14) : Bool :=
  cond[n] && decide (p.maskLevel < levelOf p n)

/-- The eligible source of the highest level, of equal ones the higher number (R143). -/
def bestSource (p : Profile) (cond : Vector Bool 14) : Option (Fin 14) :=
  (List.finRange 14).foldl
    (fun best n =>
      if eligible p cond n then
        match best with
        | none => some n
        | some b => if levelOf p b ≤ levelOf p n then some n else some b
      else best) none

/-- LAMP for a presented notice (R147). -/
def lampFor (p : Profile) : Option (Fin 14) → Bool
  | some n => decide (p.lampLevel ≤ levelOf p n)
  | none => false

/-- Builds and queues a NOTICE frame and loads the repeat timer (R148). -/
def queueNotice (s : State) : State :=
  let us := if s.notices.presented.isSome then Config.repeatShownUs else Config.repeatIdleUs
  offerNotice (noticeFrame s) (s.setNotices { s.notices with repeatTimer := s.timerIn us })

/-- LAMP follows the presented notice; it is off outside RUN and ATTEND (R147, R149). -/
def updateLamp (s : State) : State :=
  s.setNotices { s.notices with lamp := s.awake && lampFor s.profile s.notices.presented }

/-- The state of the arbiter after a choice (R143): the dwell starts with a presented source and stops
with none. -/
def present (s : State) : State :=
  let best := bestSource s.profile s.notices.conditions
  s.setNotices { s.notices with
    presented := best, dwell := if best.isSome then s.timerIn Config.dwellUs else none }

/-- A choice (R143): one that changes the presented notice is handed to LAMP and to the NOTICE frame rule;
in PARKED no frame is queued (R149). -/
def choose (s : State) : State :=
  let t := updateLamp (present s)
  if t.notices.presented = s.notices.presented then t
  else if t.awake then queueNotice t else t

/-- Whether a source has a level above the presented source's (R145). -/
def outranks (p : Profile) (n m : Fin 14) : Bool := decide (levelOf p m < levelOf p n)

/-- Sets a condition (R140, R144, R145): no choice while it was already pending, in STARTING (R139), for a
source that is not eligible, or while the dwell runs. -/
def setCondition (n : Fin 14) (s : State) : State :=
  if s.notices.conditions[n] then s
  else
    let t := s.setNotices { s.notices with conditions := s.notices.conditions.set n true }
    if t.control.mode = .starting ∨ eligible t.profile t.notices.conditions n = false then t
    else
      match t.notices.presented with
      | none => choose t
      | some p => if t.notices.dwell.isNone && outranks t.profile n p then choose t else t

/-- Clears a condition (R140, R144, R145): a choice is made when it is the presented source's and the dwell
is over. -/
def clearCondition (n : Fin 14) (s : State) : State :=
  if s.notices.conditions[n] then
    let t := s.setNotices { s.notices with conditions := s.notices.conditions.set n false }
    if t.notices.presented = some n ∧ t.notices.dwell = none ∧ t.control.mode ≠ .starting then choose t
    else t
  else s

/-- The source number of a pulse source (R138). -/
def pulseNumber : PulseSource → Fin 14
  | .misuseReverse => 3 | .shaftReversal => 4 | .drivelineShock => 5

/-- The pulse timer of a pulse source. -/
def pulseTimer (n : Notices) : PulseSource → Timer
  | .misuseReverse => n.misuseTimer
  | .shaftReversal => n.reverseTimer
  | .drivelineShock => n.shockTimer

/-- Replaces the pulse timer of a pulse source. -/
def setPulseTimer (p : PulseSource) (t : Timer) (n : Notices) : Notices :=
  match p with
  | .misuseReverse => { n with misuseTimer := t }
  | .shaftReversal => { n with reverseTimer := t }
  | .drivelineShock => { n with shockTimer := t }

/-- An event of a pulse source (R141): its timer is loaded with 10 s and its condition set. -/
def setPulse (p : PulseSource) (s : State) : State :=
  setCondition (pulseNumber p) (s.setNotices (setPulseTimer p (s.timerIn Config.pulseUs) s.notices))

/-- The end of the dwell (R145): a choice if the presented condition is clear or a higher-level source is
eligible. -/
def endDwell (s : State) : State :=
  let t := s.setNotices { s.notices with dwell := none }
  match t.notices.presented with
  | none => t
  | some p =>
    if !t.notices.conditions[p]
        || (List.finRange 14).any (fun n => eligible t.profile t.notices.conditions n && outranks t.profile n p)
    then choose t else t

end Sys2Proof.Machine
end

