-- ==== Sys2Proof/Machine/Hires.lean ====
section
/-! DEFINITION. Hire control (chapter 6): opening and closing a hire, the HIRE RECORD trigger, the outcome
of a record write and the end of a closing. -/

namespace Sys2Proof.Machine

/-- Sets the store fault flag of the buffered record (R102, R104). -/
def flagBuffer (h : HireControl) : HireControl :=
  { h with buffer := h.buffer.map fun r => { r with storeFault := true } }

/-- Whether the outcome of the closing is still to come. -/
def HireControl.closes (h : HireControl) : Bool := h.state == .closing && h.ending.isNone

/-- The result that the deferred answer carries (R101, R102). -/
def ClosingEnd.result : ClosingEnd → Result
  | .written => .done
  | .failed => .storeFault

/-- Hire control with its closing ended: NO HIRE (R101, R102). -/
def HireControl.closed (h : HireControl) : HireControl :=
  { h with state := .noHire, deferred := none, ending := none }

/-- The step that ends a closing: NO HIRE, and the deferred answer is given (R101, R102, R103). -/
def finishClosing (e : ClosingEnd) (s : State) : State :=
  match s.hire.deferred with
  | some d => oweAnswer (hireAnswer s 2 d.token (toLittle 4 d.number) e.result) (s.setHire s.hire.closed)
  | none => s.setHire s.hire.closed

/-- A closing ends: at once, or after the pass that is running (R44, R82).  DEDUCED: log entry 41. -/
def endClosing (e : ClosingEnd) (s : State) : State :=
  if s.arbiter.unit = .pass then s.setHire { s.hire with ending := some e } else finishClosing e s

/-- The end of a closing that waits for a pass is taken (R44, R82). -/
def takeEnding (s : State) : State :=
  match s.hire.ending with
  | some e => finishClosing e s
  | none => s

/-- A closing that ends as a failed write because a FAULTED store discards its trigger or waiting job
(R102). -/
def failClosing (s : State) : State :=
  if s.hire.closes then endClosing .failed (s.setHire (flagBuffer s.hire)) else s

/-- The HIRE RECORD trigger (R124, R125). -/
def hireRecordTrigger (s : State) : State :=
  if s.store.state = .faulted then failClosing s
  else grantPort (s.setStore { s.store with waitHire := true }).stopPark

/-- The header of a hire opened now (R97, step 3). -/
def State.newHeader (s : State) (number serial : Nat) : HireHeader :=
  { number := number, serial := serial, openedSeconds := s.control.partSeconds
    openedCalendar := s.calendarNow, storeFault := s.store.state == .faulted, journalDrop := false }

/-- Opening a hire (R97). -/
def openHire (number : Nat) (s : State) : State :=
  let serial := (s.hire.serial + 1) % 65536
  let pending := s.hire.pendingMark
  let s := s.setTable (zeroHire s.table)
  let s := s.setHire { s.hire with
    serial := serial, header := some (s.newHeader number serial), state := .opened }
  let s := createEntry .hireOpened none (if pending then 1 else 0) 0 s
  let s := if pending then hireRecordTrigger s else s
  checkpointTrigger .event s

/-- The flags of a hire as value2 of HIRE CLOSED (R99). -/
def hireFlags (h : HireHeader) : Nat := (if h.storeFault then 1 else 0) + (if h.journalDrop then 2 else 0)

/-- The closed hire record of the open hire (R99, step 3); it carries the store fault flag too where it
replaces an earlier pending record (R104). -/
def State.closedRecord (s : State) (h : HireHeader) : HireRecord :=
  { number := h.number, serial := h.serial, openedSeconds := h.openedSeconds
    openedCalendar := h.openedCalendar, closedSeconds := s.control.partSeconds
    closedCalendar := s.calendarNow, counts := s.table.hire
    storeFault := h.storeFault || s.hire.pendingMark, journalDrop := h.journalDrop }

/-- Closing the open hire (R99), in one step: HIRE CLOSED is staged while the hire is still OPEN, the buffer
takes the record, the hire scope is zeroed and the state becomes CLOSING; the array port is granted
at the end of the step, when the entries of the hire are settled (section 7.9).
DEDUCED: log entry 48. -/
def closeHire (token number : Nat) (s : State) : State :=
  match s.hire.header with
  | none => s
  | some h0 =>
    let s := stageEntry .hireClosed none (s.hireCount .runTime / 36000) (hireFlags h0) s
    let h := s.hire.header.getD h0
    let r := s.closedRecord h
    let s := s.setHire { s.hire with
      state := .closing, header := none, buffer := some r, pendingMark := true
      deferred := some { token := token, number := number }, ending := none }
    hireRecordTrigger (s.setTable (zeroHire s.table))

/-- Whether the closing buffer is pending with a given record, by hire serial and closed part seconds
(R101). -/
def bufferHolds (h : HireControl) (serial closedSeconds : Nat) : Bool :=
  h.pendingMark && (match h.buffer with
    | some r => r.serial == serial && r.closedSeconds == closedSeconds
    | none => false)

/-- The closing buffer emptied (R101, R106). -/
def emptyBuffer (h : HireControl) : HireControl := { h with buffer := none, pendingMark := false }

/-- Hire control's part of a successful HIRE RECORD job (R101). -/
def recordWritten (r : HireRecord) (s : State) : State :=
  if bufferHolds s.hire r.serial r.closedSeconds then
    let s := s.setHire (emptyBuffer s.hire)
    let s := if s.hire.closes then endClosing .written s else s
    checkpointTrigger .event s
  else if s.hire.state = .closing then s
  else checkpointTrigger .event s

/-- Hire control's part of a failed HIRE RECORD job (R102): the buffered record is flagged; the closing
of that record ends with STORE FAULT; an open hire is flagged. -/
def recordFailed (r : HireRecord) (s : State) : State :=
  if bufferHolds s.hire r.serial r.closedSeconds then
    let s := s.setHire (flagBuffer s.hire)
    if s.hire.closes then endClosing .failed s else s.flagStoreFault
  else s.flagStoreFault

end Sys2Proof.Machine
end

