-- ==== Sys2Proof/Machine/Mode.lean ====
section
/-! DEFINITION. The mode controller (chapter 12): entering PARKED, waking, IGNITION changes, the outcome of a
PARK or RESTART trigger, bus activity, the park timer and the two resets. -/

namespace Sys2Proof.Machine

/-! ## PARKED and the wake -/

/-- Whether an attempt may be on the bus as the part leaves it: of a part that has joined, or one that
lingers still. -/
def attemptOnBus (l : Link) : Bool :=
  (l.participation == .joined || l.participation.lingers) && l.transmitter.isSome && l.state != .busOff

/-- The link unit stops taking part (R161): an attempt that may be on the bus still ends, successfully or
not. DEDUCED: log entry 17. -/
def leaveBus (l : Link) : Link :=
  { l with participation := if attemptOnBus l then .leaving else .apart, drive := .nothing }

/-- The link unit begins to wait for 11 recessive bits (R161); an attempt that lingers still ends by R153. -/
def beginJoining (l : Link) : Link :=
  { l with participation := if l.participation.lingers then .rejoining else .joining }

/-- Entering PARKED (R181, R149, R161, R177): the tick, page and repeat timers stop, the link unit stops
taking part, LAMP is off.  R42 has the pass of a waiting tick completed first: the mode is PARKED at once, and
that pass runs in PARKED.  DESIGN CHOICE: log entry 54. -/
def enterParked (s : State) : State :=
  let s := s.setControl { s.control with mode := .parked, parkPending := false, parkTimer := none }
  let s := s.setArbiter { s.arbiter with tickTimer := none }
  let s := s.setLink (leaveBus s.link)
  let s := s.setServer { s.server with pageTimer := none }
  s.setNotices { s.notices with repeatTimer := none, lamp := false }

/-- The page interval in microseconds (R177): the summary period over 8, doubled under pacing. -/
def pageIntervalUs (p : Profile) (pacing : Nat) : Nat :=
  p.summaryPeriod * 125000 * (if 0 < pacing then 2 else 1)

/-- Starts what runs in RUN and ATTEND alone: the tick timer, the link unit's joining and the page timer
(R42, R161, R177). -/
def startAwake (s : State) : State :=
  let s := s.setArbiter { s.arbiter with tickTimer := s.timerIn Config.tallyIntervalUs }
  let s := s.setLink (beginJoining s.link)
  s.setServer { s.server with pageTimer := s.timerIn (pageIntervalUs s.profile s.link.pacing) }

/-- The mode that effective IGNITION gives (R179, R182). -/
def State.modeByIgnition (s : State) : PowerMode := if s.ignitionOn then .run else .attend

/-- A wake (R182, R149): a NOTICE frame is queued at once and LAMP follows the presented notice. -/
def wake (s : State) : State :=
  let s := s.setControl { s.control with mode := s.modeByIgnition }
  queueNotice (updateLamp (startAwake s))

/-- A change of effective IGNITION (R179, R181, R182), with the time it is handed with (R22), of which the
mode controller makes no use. -/
def ignitionChange (on : Bool) (_atMs : Nat) (s : State) : State :=
  match s.control.mode, on with
  | .run, false =>
    checkpointTrigger .event (s.setControl { s.control with mode := .attend })
  | .attend, true =>
    s.setControl { s.control with mode := .run, parkTimer := none, parkPending := false }
  | .parked, true => wake s
  | _, _ => s

/-- Bus activity (R180, R181): a running park timer is loaded again, and a pending park is cancelled. -/
def busActivity (s : State) : State :=
  s.setControl { s.control with
    parkTimer := if s.control.parkTimer.isSome then s.timerIn Config.parkUs else none
    parkPending := false }

/-- The outcome of a PARK or RESTART trigger reaches the mode controller (R181, R186): success and not
written act alike. -/
def reportOutcome (forPark forRestart : Bool) (s : State) : State :=
  let s := if forRestart then
      s.setControl { s.control with restart := s.control.restart.map fun w => { w with outcome := true } }
    else s
  if forPark && s.control.parkPending then enterParked s else s

/-! ## The park timer (R180) -/

/-- Whether the write queue holds no waiting job and no job is in progress. -/
def Store.idle (st : Store) : Bool :=
  st.waitFinal.isNone && !st.waitHire && !st.waitJournal && st.waitCheckpoint.isNone
    && st.journalJob.isNone
    && (match st.port with
        | .free | .journalRead _ _ | .hireRead _ _ => true
        | .snapshot _ | .checkpoint _ _ | .hireRecord _ _ | .journalEntry _ _ => false)

/-- Whether the park timer may run. -/
def State.mayPark (s : State) : Bool :=
  s.control.mode == .attend && s.stream.running.isNone && s.store.idle && !s.control.parkPending

/-- Starts the park timer at 60 s where its conditions have come to hold, stops it where one has stopped
holding (R180). -/
def parkUpdate (s : State) : State :=
  s.setControl { s.control with
    parkTimer := if s.mayPark then
        (match s.control.parkTimer with | some t => some t | none => s.timerIn Config.parkUs)
      else none }

/-! ## Resets (R183, R186) -/

/-- The link unit while an attempt from before a DEPOT RESTART completes (R162): the frame and the error
account that its end needs stay, the rest is at its reset values. -/
def Link.completing (l : Link) : Link :=
  { Link.reset with
    tec := l.tec, recCount := l.recCount, state := l.state, warning := l.warning
    participation := .leaving, transmitter := l.transmitter }

/-- The link unit after a reset (R162): START-UP sets it at once, and a DEPOT RESTART once an attempt that
may be on the bus has ended. DEDUCED: log entry 34. -/
def linkAfterReset (reason : ResetReason) (s : State) : Link :=
  match reason with
  | .power => .reset
  | .restart => if attemptOnBus s.link then s.link.completing else .reset

/-- Working memory at its reset values; the retained array, the levels of the pins and the model's clock
stay.  A write in progress has left its slot invalid already (R123). DESIGN CHOICE: log entry 24. -/
def resetWorking (reason : ResetReason) (s : State) : State :=
  { s with
    control := .reset reason, board := .reset, intake := .reset, inputs := s.inputs.reset
    arbiter := .reset, start := .reset, trackers := .reset, remainders := .reset, table := .reset
    hire := .reset, journal := .reset, store := s.store.reset, notices := .reset
    link := linkAfterReset reason s, stream := .reset, server := .reset }

/-- The part held in reset while the supply is below its operating minimum (R186). DEDUCED: log entry 38. -/
def holdInReset (s : State) : State :=
  let s := resetWorking .power s
  s.setControl { s.control with powered := false }

/-- A DEPOT RESTART once its two conditions are met (R186). DEDUCED: log entry 34. -/
def restartCheck (s : State) : State :=
  match s.control.restart with
  | some w => if w.outcome && w.answered then resetWorking .restart s else s
  | none => s

end Sys2Proof.Machine
end

