-- ==== Sys2Proof/Machine/Streams.lean ====
section
/-! DEFINITION. The stream engine (R105, R170 to R175, R189): starting a stream, loading an item, completion
with a continuation, and the endings by ABORT STREAM, BUS OFF and a missing record. -/

namespace Sys2Proof.Machine

/-! ## Lookup of a hire record (R105) -/

/-- The live hire as a record (R105): the snapshot's part seconds stand as closed part seconds, closed
calendar time is absent. -/
def State.liveRecord (s : State) (h : HireHeader) : HireRecord :=
  { number := h.number, serial := h.serial, openedSeconds := h.openedSeconds
    openedCalendar := h.openedCalendar, closedSeconds := s.control.partSeconds
    closedCalendar := none, counts := s.table.hire
    storeFault := h.storeFault, journalDrop := h.journalDrop }

/-- The header of the live hire, present while the hire is OPEN. -/
def State.openHeader (s : State) : Option HireHeader := if s.hireOpen then s.hire.header else none

/-- The record of the closing buffer while it is pending. -/
def HireControl.pendingRecord (h : HireControl) : Option HireRecord :=
  if h.pendingMark then h.buffer else none

/-- The newest valid history record that passes a test, as a choice. -/
def retainedChoice (s : State) (p : HireRecord → Bool) : Option HireChoice :=
  (newestHistory s.store.history p).map fun x =>
    .retained x.1 x.2.record.number x.2.record.serial x.2.record.closedSeconds

/-- The record that a READ HIRE of a number streams (R105). -/
def hireLookup (number : Nat) (s : State) : Option HireChoice :=
  if number = 0 then
    match s.openHeader, s.hire.pendingRecord with
    | some h, _ => some (.live (s.liveRecord h))
    | none, some r => some (.unwritten r.serial r.closedSeconds)
    | none, none => retainedChoice s fun _ => true
  else
    match s.hire.pendingRecord with
    | some r =>
      if r.number = number then some (.unwritten r.serial r.closedSeconds)
      else retainedChoice s fun x => x.number == number
    | none => retainedChoice s fun x => x.number == number

/-! ## Items (R172) -/

/-- An item read for the running stream: its bytes are cut into frames, and the first is handed where
the STREAM queue is empty. -/
def loadItem (part : StreamPart) (frames : Nat) (previous : Option Nat) (bytes : List Byte) (s : State) :
    State :=
  match s.stream.running with
  | none => s
  | some r =>
    handStream (s.setStream { s.stream with running := some { r with
      handed := r.handed + 1, previous := previous
      waiting := cutItem s.stream.tag part frames r.frames bytes } })

/-- Loads a journal entry as the next item: 3 frames. -/
def loadEntry (e : Entry) (s : State) : State :=
  loadItem (.lastOfEntry e.seq) 3 (some e.seq) (entryBytes e) s

/-- Loads a hire record as the item: 30 frames; the mark is 0 RETAINED, 1 UNWRITTEN, 2 LIVE. -/
def loadHire (mark : Nat) (r : HireRecord) (s : State) : State :=
  loadItem .lastOfHire 30 none (hireBytes s.free mark r) s

/-- Whether a stream is a hire stream. -/
def StreamKind.isHire : StreamKind → Bool
  | .journal _ _ => false
  | .hire _ => true

/-- The STREAM END of a stream with a result (R172 to R175). -/
def endAnswer (s : State) (r : RunningStream) (result : Result) : OutFrame :=
  streamEnd s r.token result s.stream.tag r.kind.isHire r.sent r.lastSent

/-- The engine IDLE, with no stream in progress. -/
def stopStream (s : State) : State := s.setStream { s.stream with running := none }

/-- A hire stream whose record is not there ends with NOT FOUND and 0 items (R175). -/
def recordMissing (s : State) : State :=
  match s.stream.running with
  | none => s
  | some r => oweAnswer (endAnswer s r .notFound) (stopStream s)

/-- Asks for the item of a hire stream: LIVE and UNWRITTEN records are taken from working memory, a
RETAINED one is read through the array port (R127, R172, R175). -/
def askHire (choice : HireChoice) (s : State) : State :=
  match choice with
  | .live r => loadHire 2 r s
  | .unwritten serial closedSeconds =>
    match s.hire.pendingRecord with
    | some r =>
      if r.serial = serial ∧ r.closedSeconds = closedSeconds then loadHire 1 r s else recordMissing s
    | none => recordMissing s
  | .retained slot _ _ _ => grantPort (s.setStore { s.store with readPending := some (.hire slot) })

/-! ## Starting (R171) -/

/-- The engine RUNNING a new stream: the tag is inverted, and a pending park is cancelled (R181). -/
def beginStream (kind : StreamKind) (token : Nat) (s : State) : State :=
  let s := s.setControl { s.control with parkPending := false, parkTimer := none }
  s.setStream { s.stream with
    tag := !s.stream.tag
    running := some { kind := kind, token := token, sent := 0, frames := 0, handed := 0
                      previous := none, lastSent := none, waiting := [], noMore := false } }

/-- Whether the start checks of a journal stream pass (R171, R120). -/
def journalStartPasses (start : Nat) (s : State) : Bool := (entryFrom s.store.journal start).isSome

/-- Starts a journal stream whose start checks pass, and asks for its first item. -/
def startJournalStream (token start count : Nat) (s : State) : State :=
  let s := beginStream (.journal start count) token s
  grantPort (s.setStore { s.store with readPending := some .journal })

/-- Starts a hire stream for the record its lookup found, and asks for its item. -/
def startHireStream (token : Nat) (choice : HireChoice) (s : State) : State :=
  askHire choice (beginStream (.hire choice) token s)

/-! ## Completion (R172) -/

/-- Whether the transmitter holds a frame of the stream in progress. -/
def streamInTransmitter (l : Link) : Bool :=
  match l.transmitter with
  | some t => match t.frame.kind with
    | .stream _ counted => counted
    | _ => false
  | none => false

/-- Whether the stream has no further item and its last handed frame has been sent. -/
def streamFinished (r : RunningStream) (s : State) : Bool :=
  r.noMore && r.waiting.isEmpty && s.link.stream.isNone && !streamInTransmitter s.link

/-- Normal completion (R172): a STREAM END with DONE is owed, and a READ JOURNAL in the continuation slot
starts at once or is refused. -/
def completeStream (r : RunningStream) (s : State) : State :=
  let s := oweAnswer (endAnswer s r .done) s
  match s.stream.continuation with
  | none => stopStream s
  | some k =>
    let s := s.setStream { s.stream with continuation := none }
    if journalStartPasses k.start s then startJournalStream k.token k.start k.count s
    else oweAnswer (plainAnswer 4 k.token .notFound) (stopStream s)

/-- Completes a finished stream; the continuation it starts may be finished at once (R189), so there
are at most two completions. -/
def settleStreams : Nat → State → State
  | 0, s => s
  | n + 1, s =>
    match s.stream.running with
    | none => s
    | some r => if streamFinished r s then settleStreams n (completeStream r s) else s

/-! ## Ends from outside (R173, R174) -/

/-- A frame in the transmitter that belongs to an ended stream is sent but no longer counted (R173). -/
def uncount (l : Link) : Link :=
  { l with transmitter := l.transmitter.map fun t =>
      match t.frame.kind with
      | .stream part _ => { t with frame := { t.frame with kind := .stream part false } }
      | _ => t }

/-- The port with an item read whose content is to be discarded (R173, R174). -/
def unwant : Port → Port
  | .journalRead i _ => .journalRead i false
  | .hireRead i _ => .hireRead i false
  | p => p

/-- Withdraws what the ended stream has asked for: the waiting frame, the pending read, the
continuation. DEDUCED: log entry 33. -/
def withdrawStream (s : State) : State :=
  let s := s.setLink (uncount { s.link with stream := none })
  let s := s.setStore { s.store with readPending := none, port := unwant s.store.port }
  s.setStream { s.stream with running := none, continuation := none }

/-- The entry into BUS OFF ends a running stream and sets the LINK LOST mark (R174). -/
def loseStream (s : State) : State :=
  match s.stream.running with
  | none => s
  | some r =>
    let mark : LostMark :=
      { token := r.token, tag := s.stream.tag, hire := r.kind.isHire, sent := r.sent, lastSent := r.lastSent }
    let s := withdrawStream s
    s.setStream { s.stream with lost := some mark }

/-- The STREAM END with LINK LOST that the mark owes at the link's recovery (R174). -/
def payLostMark (s : State) : State :=
  match s.stream.lost with
  | none => s
  | some m =>
    oweAnswer (streamEnd s m.token .linkLost m.tag m.hire m.sent m.lastSent)
      (s.setStream { s.stream with lost := none })

/-! ## The end of an item read (R127, R175) -/

/-- A journal item that has been read; one whose slot fails its check is passed over, and the slot is free
from then on (R175). -/
def journalItemRead (slot : Fin 256) (wanted verified : Bool) (s : State) : State :=
  if verified then
    match s.store.journal[slot] with
    | some e => if wanted then loadEntry e s else s
    | none => s
  else
    let s := s.setStore { s.store with journal := s.store.journal.set slot none }
    match s.stream.running with
    | some r => if wanted then askNext r s else s
    | none => s

/-- Whether a history slot holds the record that the running stream was started for (R175). -/
def holdsChoice (r : RunningStream) (slot : Fin 8) (x : HireRecord) : Bool :=
  match r.kind with
  | .hire (.retained i number serial closedSeconds) =>
    i == slot && x.number == number && x.serial == serial && x.closedSeconds == closedSeconds
  | _ => false

/-- A history item that has been read (R175). -/
def hireItemRead (slot : Fin 8) (wanted verified : Bool) (s : State) : State :=
  let s := if verified then s
    else s.setStore { s.store with history := s.store.history.set slot none }
  match s.stream.running, s.store.history[slot] with
  | some r, some x =>
    if wanted then (if holdsChoice r slot x.record then loadHire 0 x.record s else recordMissing s) else s
  | some _, none => if wanted then recordMissing s else s
  | none, _ => s

end Sys2Proof.Machine
end

