-- ==== Sys2Proof/Machine/Settle.lean ====
section
/-! DEFINITION. What follows every event: held answers, a finished stream, the next frame, the park timer and
a due DEPOT RESTART; and the frame in which every event stands. -/

namespace Sys2Proof.Machine

/-- One free value is used up at each event (log entry 1). -/
def countFree (s : State) : State := s.setFree (s.free + 1)

/-- What every event leaves done: a DEPOT RESTART whose conditions are met (R186), held answers where
places are free (R165), a finished stream completed (R172), the transmitter filled (R159), the park
timer by its conditions (R180). DEDUCED: log entry 7. -/
def settle (s : State) : State :=
  countFree (parkUpdate (takeFrame (settleStreams 2 (drainHeld (restartCheck s)))))

/-- The outcome type of every meaning. -/
abbrev StepResult := Host.Outcome State Fault Refusal

/-- An event `dt` microseconds from now.  A part held in reset does nothing, but time passes.
DESIGN CHOICE: log entry 5. -/
def event (dt : Nat) (f : State → State) (s : State) : StepResult :=
  .next (if s.control.powered then settle (f (s.advance dt)) else s.advance dt)

/-- The expiry of a timer, at the moment it holds; a stopped timer does not run out.
DESIGN CHOICE: log entry 4. -/
def expiry (t : Timer) (f : State → State) (s : State) : StepResult :=
  match t with
  | some d => .next (if s.control.powered then settle (f (s.advanceTo d)) else s)
  | none => .next s

end Sys2Proof.Machine
end

