-- ==== Sys2Proof/Machine/StoreJobs.lean ====
section
/-! DEFINITION. The ends of the retained store's write jobs (R101, R115, R117, R129 to R133): success, failure,
the entry into FAULTED, the snapshot and the power warning. -/

namespace Sys2Proof.Machine

/-! ## Failure (R130, R131) -/

/-- The PARK and RESTART triggers that the waiting jobs carry. -/
def awaited (st : Store) : Bool × Bool :=
  match st.waitFinal, st.waitCheckpoint with
  | some f, some j => (f.forPark || j.forPark, f.forRestart || j.forRestart)
  | some f, none => (f.forPark, f.forRestart)
  | none, some j => (j.forPark, j.forRestart)
  | none, none => (false, false)

/-- The store enters FAULTED (R131): every waiting job is discarded, a JOURNAL job in progress ends, and
hire control and the notice arbiter are told.  The caller reports the discarded PARK and RESTART
triggers. -/
def enterFaulted (s : State) : State :=
  let hireWaits := s.store.waitHire
  let s := s.setStore { s.store with
    state := .faulted, waitFinal := none, waitHire := false, waitJournal := false
    waitCheckpoint := none, journalJob := none }
  let s := if hireWaits then failClosing s else s
  setCondition 7 s.flagStoreFault

/-- A failed job (R130), in order: the counts, the STORE FAULT entry, the report to hire control, and
FAULTED at the second consecutive failure. -/
def jobFailed (kind : Nat) (report : State → State) (s : State) : State :=
  let s := s.setStore { s.store with
    failureCount := capAdd ceiling16 s.store.failureCount 1
    failedJobs := min 2 (s.store.failedJobs + 1) }
  let s := createEntry .storeFault none kind s.store.failedJobs s
  let s := report s
  if 2 ≤ s.store.failedJobs then enterFaulted s else s

/-- The port set free and granted again (R126). -/
def releasePort (s : State) : State := grantPort (s.setStore { s.store with port := .free })

/-! ## Checkpoints (R128, R129, R133) -/

/-- The checkpoint that a snapshot holds (R128). -/
def State.checkpointNow (s : State) (kind : CheckpointKind) : Checkpoint :=
  { seq := s.store.nextSeq, kind := kind, partSeconds := s.control.partSeconds
    life := s.table.life, hire := s.table.hire, remainders := s.remainders, marks := s.table.marks
    hireState := s.hire.state, hireSerial := s.hire.serial
    header := if s.hireOpen then s.hire.header else none
    closing := if s.hire.pendingMark then s.hire.buffer else none
    nextSeq := s.journal.nextSeq }

/-- The snapshot of the checkpoint job that holds the port; its write then begins on the next slot, whose
old content is gone (R129). DEDUCED: log entry 27. -/
def takeSnapshot (s : State) : State :=
  match s.store.port with
  | .snapshot job =>
    s.setStore { s.store with
      ring := s.store.ring.set s.store.nextSlot none
      port := .checkpoint job (s.checkpointNow job.kind) }
  | _ => s

/-- The slot after a slot of the ring. -/
def slotAfter (i : Fin 32) : Fin 32 := i + 1

/-- What a FINAL CHECKPOINT job does at its end beside its outcome (R132, R133): final attempted is set,
the job it stands for is withdrawn, and in NORMAL the EVENT trigger is taken.  Where another FINAL CHECKPOINT
job waits, the first of the two to end withdraws the job that is stood for. DESIGN CHOICE: log entry 52.
One that the deassertion found waiting, and kept for a PARK or RESTART trigger, takes the EVENT trigger at its
end in NORMAL too. DESIGN CHOICE: log entry 55. -/
def endFinal (s : State) : State :=
  let s := s.setStore { s.store with
    finalAttempted := true
    waitCheckpoint := match s.store.waitCheckpoint with
      | some j => if j.stoodFor then none else some j
      | none => none }
  if s.store.state = .normal then
    checkpointTrigger .event (s.setStore { s.store with finalAttempted := false })
  else s

/-- The end of a checkpoint write (R129, R130).  The port is granted (R126) before the outcome is reported, and
with it before a DEPOT RESTART that the outcome completes (R186).  DESIGN CHOICE: log entry 59. -/
def endCheckpoint (job : PortJob) (image : Checkpoint) (verified : Bool) (s : State) : State :=
  let waiting := awaited s.store
  let s := s.setStore { s.store with
    ring := s.store.ring.set s.store.nextSlot (if verified then some image else none)
    nextSlot := slotAfter s.store.nextSlot
    nextSeq := min ceiling (s.store.nextSeq + 1) }
  let s := if verified then s.setStore { s.store with failedJobs := 0 }
    else jobFailed (if job.final then 1 else 4) State.flagStoreFault s
  let discarded := !verified && s.store.state == .faulted
  let s := if job.final then endFinal s else s
  reportOutcome (job.forPark || discarded && waiting.1) (job.forRestart || discarded && waiting.2)
    (releasePort s)

/-! ## Hire records and journal entries (R101, R102, R115, R117) -/

/-- The outcome of a hire record write (R100 to R102, R130). -/
def endHireRecord (slot : Fin 8) (item : RetainedHire) (verified : Bool) (s : State) : State :=
  let waiting := awaited s.store
  let s := s.setStore { s.store with
    history := s.store.history.set slot (if verified then some item else none) }
  let s := if verified then recordWritten item.record (s.setStore { s.store with failedJobs := 0 })
    else jobFailed 2 (recordFailed item.record) s
  let discarded := !verified && s.store.state == .faulted
  reportOutcome (discarded && waiting.1) (discarded && waiting.2) (releasePort s)

/-- A verified entry is in the table and leaves staging (R115); the job ends with its list. -/
def entryWritten (slot : Fin 256) (e : Entry) (s : State) : State :=
  let s := unstage e.seq (s.setStore { s.store with journal := s.store.journal.set slot (some e) })
  match s.store.journalJob with
  | some j =>
    if j.list = [] then endJournalJob true s
    else s.setStore { s.store with journalJob := some { j with wrote := true } }
  | none => s

/-- The outcome of a journal entry write (R115, R117, R130): a failure leaves the slot free and the entry at
the head of staging, and ends the job. -/
def endJournalEntry (slot : Fin 256) (e : Entry) (verified : Bool) (s : State) : State :=
  let waiting := awaited s.store
  let s := if verified then entryWritten slot e s
    else queueJournal (jobFailed 3 State.flagStoreFault (s.setStore { s.store with
      journal := s.store.journal.set slot none, journalJob := none }))
  let discarded := !verified && s.store.state == .faulted
  reportOutcome (discarded && waiting.1) (discarded && waiting.2) (releasePort s)

/-! ## The power warning (R132, R133) -/

/-- The FINAL CHECKPOINT job that an assertion queues: it stands for the triggers of a waiting CHECKPOINT
job and of a FINAL CHECKPOINT job that waits already (R132). -/
def finalJobFor (st : Store) : FinalJob := { forPark := (awaited st).1, forRestart := (awaited st).2 }

/-- A qualified assertion of POWER WARNING (R132). -/
def assertWarning (s : State) : State :=
  if s.store.state = .normal then
    grantPort (s.setStore { s.store with
      state := .quiesced, finalAttempted := false, waitFinal := some (finalJobFor s.store)
      waitCheckpoint := s.store.waitCheckpoint.map fun j =>
        { j with stoodFor := j.forPark || j.forRestart } }).stopPark
  else s

/-- A qualified deassertion of POWER WARNING (R133). -/
def deassertWarning (s : State) : State :=
  if s.store.state = .quiesced then
    let attempted := s.store.finalAttempted
    let s := s.setStore { s.store with
      state := .normal, finalAttempted := false
      waitFinal := match s.store.waitFinal with
        | some f => if f.forPark || f.forRestart then some f else none
        | none => none }
    if attempted then checkpointTrigger .event s else grantPort s
  else s

end Sys2Proof.Machine
end

