-- ==== Sys2Proof/Machine/Requests.lean ====
section
/-! DEFINITION. The request server's requests (R163 to R171, R173, R176, R178, R92, R96, R98, R186): which row a
request frame is, whether it needs the arithmetic unit, and what its execution does. -/

namespace Sys2Proof.Machine

/-! ## The rows of the request list -/

/-- What a request of the request list asks for: one name per row of the table. -/
inductive Asked where
  | status | readCounter | readSource | readJournal | readHire | serviceDone | abortStream | restart
  | unknown | checkOut | checkIn | hireUnknown | hold | page | short
  deriving DecidableEq, Repr

/-- The row of a REQUEST frame of two bytes or more, by its kind (section 13.1). -/
def askedKind (kind : Nat) : Asked :=
  if kind = 1 then .status else if kind = 2 then .readCounter else if kind = 3 then .readSource
  else if kind = 4 then .readJournal else if kind = 5 then .readHire else if kind = 6 then .serviceDone
  else if kind = 7 then .abortStream else if kind = 8 then .restart else .unknown

/-- The row of a HIRE CONTROL frame of two bytes or more, by its operation (section 13.1). -/
def askedOperation (operation : Nat) : Asked :=
  if operation = 1 then .checkOut else if operation = 2 then .checkIn else .hireUnknown

/-- The row of a request (R164): a REQUEST or HIRE CONTROL frame below two bytes is discarded.
DEDUCED: log entry 15. -/
def asked (r : Request) : Asked :=
  match r.frame with
  | .request => if r.length < 2 then .short else askedKind (byteAt r.data 0)
  | .hireControl => if r.length < 2 then .short else askedOperation (byteAt r.data 0)
  | .hold => .hold
  | .page _ => .page

/-- The token of a request. -/
def tokenOf (r : Request) : Nat := byteAt r.data 1

/-- Removes the head of the request list: its reserved places are released (R163, R164). -/
def dropHead (s : State) : State := s.setServer { s.server with requests := s.server.requests.drop 1 }

/-- The end of the head request's step (R164): its reservation is released and its frames are placed. -/
def endRequest (fs : List OutFrame) (s : State) : State :=
  placeAnswers fs (dropHead (s.setServer { s.server with built := [] }))

/-- The head request answered (R164): at the end of its step.  A step that holds the arithmetic unit ends
with STEP_COMPLETE, any other one now. -/
def answer (fs : List OutFrame) (s : State) : State :=
  if s.arbiter.unit = .step .request then s.setServer { s.server with built := fs } else endRequest fs s

/-- The refusal or plain result of a REQUEST of a kind. -/
def answerPlain (kind : Nat) (r : Request) (result : Result) (s : State) : State :=
  answer [plainAnswer kind (tokenOf r) result] s

/-! ## Requests that answer at once (R166 to R169) -/

/-- STATUS (R166). -/
def doStatus (r : Request) (s : State) : State := answer (statusAnswer s (tokenOf r)) s

/-- The first refusal that applies to a READ COUNTER (R164, R167), `none` where it passes. -/
def counterRefusal (r : Request) (s : State) : Option Result :=
  let scope := byteAt r.data 2
  let number := byteAt r.data 3
  if r.length < 4 then some .outOfRange
  else if 2 < scope then some .outOfRange
  else if scope = 2 ∧ 4 < number ∨ scope ≠ 2 ∧ 46 < number then some .outOfRange
  else if scope = 1 ∧ number = 45 then some .outOfRange
  else if scope = 1 ∧ s.hireOpen = false then some .noHire
  else none

/-- The value of a READ COUNTER that passes (R93): a DRIVELINE mark above the ceiling reads as the
ceiling. -/
def counterValue (scope number : Nat) (t : Table) : Nat :=
  if scope = 0 then (t.life[number]?).getD 0
  else if scope = 1 then (t.hire[number]?).getD 0
  else min ceiling ((t.marks[number]?).getD 0)

/-- The saturated flag of a READ COUNTER that passes (R93): set for a counter at the ceiling, and for a
mark above it. -/
def counterFlag (scope number : Nat) (t : Table) : Bool :=
  if scope = 2 then decide (ceiling < (t.marks[number]?).getD 0)
  else saturated (counterValue scope number t)

/-- READ COUNTER (R167). -/
def doReadCounter (r : Request) (s : State) : State :=
  match counterRefusal r s with
  | some e => answerPlain 2 r e s
  | none =>
    let scope := byteAt r.data 2
    let number := byteAt r.data 3
    answer [counterAnswer s (tokenOf r) scope number (counterValue scope number s.table)
      (counterFlag scope number s.table)] s

/-- READ SOURCE (R168). DEDUCED: log entry 14. -/
def doReadSource (r : Request) (s : State) : State :=
  if h : 3 ≤ r.length ∧ byteAt r.data 2 < 16 then
    let e := s.profile.entries[byteAt r.data 2]
    if e.valid then answer (sourceAnswer s (tokenOf r) ⟨byteAt r.data 2, h.2⟩ e) s
    else answerPlain 3 r .notFound s
  else answerPlain 3 r .outOfRange s

/-- The first refusal that applies to a SERVICE DONE (R164, R169), `none` where it passes. -/
def serviceRefusal (r : Request) (s : State) : Option Result :=
  if r.length < 3 ∨ 4 < byteAt r.data 2 then some .outOfRange
  else if s.hireOpen then some .hireOpen
  else none

/-- SERVICE DONE on a member, steps 1 to 5 of R92. -/
def serviceMember (m : Fin 5) (s : State) : State :=
  let old := wearFraction s.profile.limits s.table m
  let wasDue := s.table.due[m]
  let s := s.setTable { s.table with
    marks := s.table.marks.set m (wearIndex s.table.life m), due := s.table.due.set m false }
  let s := clearCondition ⟨9 + m.val, by omega⟩ s
  checkpointTrigger .event (createEntry .serviceDone (some m.val) old (if wasDue then 1 else 0) s)

/-- The member byte of a SERVICE DONE as received; where the frame was too short to carry one it is open
(log entry 1). -/
def memberByte (free : Nat) (r : Request) : Byte :=
  if 2 < r.length then r.data.getD 2 0 else Config.unstatedByte free 44

/-- The answer to a SERVICE DONE (R169). -/
def answerService (r : Request) (result : Result) (s : State) : State :=
  answer [serviceAnswer s (tokenOf r) (memberByte s.free r) result] s

/-- SERVICE DONE (R169, R92). -/
def doServiceDone (r : Request) (s : State) : State :=
  match serviceRefusal r s with
  | some e => answerService r e s
  | none =>
    if h : byteAt r.data 2 < 5 then answerService r .done (serviceMember ⟨byteAt r.data 2, h⟩ s)
    else answerService r .outOfRange s

/-- A REQUEST of an unknown kind (R164): the kind is echoed as received. -/
def doUnknown (r : Request) (s : State) : State :=
  answerPlain (byteAt r.data 0) r .unknownRequest s

/-- A frame below two bytes (R164): discarded without an answer. -/
def doShort (_r : Request) (s : State) : State := answer [] s

/-- HOLD (R176): a time above 0 loads the HOLD timer, 0 stops it, a frame below two bytes does nothing.  A
STREAM frame whose least gap (R159) ends at this very moment goes into the transmitter first.
DESIGN CHOICE: log entry 56. -/
def doHold (r : Request) (s : State) : State :=
  let s := answer [] s
  if r.length < 2 then s
  else if littleAt r.data 0 2 = 0 then s.setServer { s.server with holdTimer := none }
  else s.setServer { s.server with holdTimer := s.timerIn (littleAt r.data 0 2 * 10000) }

/-- A remote frame for a SUMMARY page (R178). -/
def doPage (r : Request) (s : State) : State :=
  match r.frame with
  | .page n => answer (pageAnswer s n) s
  | _ => answer [] s

/-! ## Hire control (R96, R98) -/

/-- The hire number of a HIRE CONTROL frame. -/
def hireNumberOf (r : Request) : Nat := littleAt r.data 2 4

/-- The first answer without effect that applies to a CHECK OUT (R164, R96), `none` where a hire opens. -/
def checkOutAnswer (r : Request) (s : State) : Option Result :=
  if r.length < 6 ∨ hireNumberOf r = 0 then some .outOfRange
  else match s.hire.state with
    | .noHire => none
    | .opened =>
      if s.hire.header.map HireHeader.number = some (hireNumberOf r) then some .done else some .hireOpen
    | .closing => some .busy

/-- The four bytes of the hire number as received; a byte that the frame was too short to carry is open
(log entry 1). -/
def hireNumberBytes (free : Nat) (r : Request) : List Byte :=
  (List.range 4).map fun k =>
    if 2 + k < r.length then r.data.getD (2 + k) 0 else Config.unstatedByte free (40 + k)

/-- An answer to a HIRE CONTROL frame given at once (R169). -/
def answerHire (operation : Nat) (r : Request) (result : Result) (s : State) : State :=
  answer [hireAnswer s operation (tokenOf r) (hireNumberBytes s.free r) result] s

/-- CHECK OUT (R96, R97). -/
def doCheckOut (r : Request) (s : State) : State :=
  match checkOutAnswer r s with
  | some result => answerHire 1 r result s
  | none => answerHire 1 r .done (openHire (hireNumberOf r) s)

/-- The first answer without effect that applies to a CHECK IN (R164, R98), `none` where the open hire
closes. -/
def checkInAnswer (r : Request) (s : State) : Option Result :=
  if r.length < 6 ∨ hireNumberOf r = 0 then some .outOfRange
  else match s.hire.state with
    | .noHire => some .noHire
    | .opened =>
      if s.hire.header.map HireHeader.number = some (hireNumberOf r) then none else some .wrongHire
    | .closing => some .busy

/-- CHECK IN (R98, R99): a deferred answer releases the reserved place (R169). DEDUCED: log entry 40. -/
def doCheckIn (r : Request) (s : State) : State :=
  match checkInAnswer r s with
  | some result => answerHire 2 r result s
  | none => closeHire (tokenOf r) (hireNumberOf r) (answer [] s)

/-- A HIRE CONTROL frame of another operation (R164): one below the six bytes that section 13.1 requires is
too short. DEDUCED: log entry 15. -/
def doHireUnknown (r : Request) (s : State) : State :=
  answerHire (byteAt r.data 0) r (if r.length < 6 then .outOfRange else .unknownRequest) s

/-! ## Streams (R170, R171, R173) -/

/-- The link state BUS OFF. -/
def State.busOff (s : State) : Bool := s.link.state == .busOff

/-- READ JOURNAL (R164, R170). -/
def doReadJournal (r : Request) (s : State) : State :=
  let start := littleAt r.data 2 4
  let count := byteAt r.data 6
  if r.length < 7 ∨ count = 0 then answerPlain 4 r .outOfRange s
  else match s.stream.running with
    | none =>
      if s.busOff then answerPlain 4 r .linkLost s
      else if journalStartPasses start s then startJournalStream (tokenOf r) start count (answer [] s)
      else answerPlain 4 r .notFound s
    | some x =>
      if x.kind.isHire || s.stream.continuation.isSome then answerPlain 4 r .busy s
      else answerPlain 4 r .queued (s.setStream { s.stream with
        continuation := some { token := tokenOf r, start := start, count := count } })

/-- READ HIRE (R164, R170, R171). -/
def doReadHire (r : Request) (s : State) : State :=
  if r.length < 6 then answerPlain 5 r .outOfRange s
  else match s.stream.running with
    | some _ => answerPlain 5 r .busy s
    | none =>
      if s.busOff then answerPlain 5 r .linkLost s
      else match hireLookup (littleAt r.data 2 4) s with
        | none => answerPlain 5 r .notFound s
        | some choice => startHireStream (tokenOf r) choice (answer [] s)

/-- ABORT STREAM (R173): the STREAM END follows the DONE in the second reserved place. DEDUCED: log entry 14. -/
def doAbort (r : Request) (s : State) : State :=
  match s.stream.running with
  | none => answerPlain 7 r .notFound s
  | some x =>
    answer [plainAnswer 7 (tokenOf r) .done, endAnswer s x .aborted] (withdrawStream s)

/-! ## RESTART (R186) -/

/-- RESTART: the answer is placed, the restart flag set and the RESTART trigger handed on.  A FAULTED store
reports the trigger as not written at once. -/
def doRestart (r : Request) (s : State) : State :=
  let s := answer [restartAnswer (tokenOf r)] s
  let s := s.setControl { s.control with restart := some {
    outcome := s.store.state == .faulted, answered := false, timer := s.timerIn Config.restartWaitUs } }
  restartTrigger s

/-! ## Execution of the head -/

/-- Executes a request as the row it is (R164). -/
def executeRequest (r : Request) (s : State) : State :=
  match asked r with
  | .status => doStatus r s
  | .readCounter => doReadCounter r s
  | .readSource => doReadSource r s
  | .readJournal => doReadJournal r s
  | .readHire => doReadHire r s
  | .serviceDone => doServiceDone r s
  | .abortStream => doAbort r s
  | .restart => doRestart r s
  | .unknown => doUnknown r s
  | .checkOut => doCheckOut r s
  | .checkIn => doCheckIn r s
  | .hireUnknown => doHireUnknown r s
  | .hold => doHold r s
  | .page => doPage r s
  | .short => doShort r s

/-- Executes the head of the request list. -/
def executeHead (s : State) : State :=
  match s.server.requests with
  | r :: _ => executeRequest r s
  | [] => s

/-- Whether a request is a step that reads or writes the counter table, so that it needs the arithmetic
unit (R44, R164): a read, opening, closing, service, page or live snapshot that is carried out, not a
refusal. DEDUCED: log entry 9. -/
def needsUnit (r : Request) (s : State) : Bool :=
  match asked r with
  | .readCounter => (counterRefusal r s).isNone
  | .serviceDone => (serviceRefusal r s).isNone
  | .checkOut => (checkOutAnswer r s).isNone
  | .checkIn => (checkInAnswer r s).isNone
  | .page => true
  | .readHire =>
    decide (6 ≤ r.length) && decide (littleAt r.data 2 4 = 0) && s.openHeader.isSome
      && s.stream.running.isNone && !s.busOff
  | .status | .readSource | .readJournal | .abortStream | .restart | .unknown | .hireUnknown | .hold
  | .short => false

/-- Whether the request server may take up the next request: no step of a request is being taken or waits
(R164), and no RESTART has been taken (R169). -/
def State.serverReady (s : State) : Bool :=
  s.control.restart.isNone && s.arbiter.unit != .step .request && !s.arbiter.steps.contains .request

end Sys2Proof.Machine
end

