-- ==== Sys2Proof/Machine/Start.lean ====
section
/-! DEFINITION. The event side of the tally engine: the start machine's cranks (R55 to R59), the clutch and gear
watchers (R69 to R72), the effects of a detection (R38), and the list of held events (R45). -/

namespace Sys2Proof.Machine

/-! ## Attempts (R56) -/

/-- The outcomes of a start attempt (R56). -/
inductive Outcome where
  | successful | failed | unconfirmed
  deriving DecidableEq, Repr

/-- The outcome counter. -/
def Outcome.counter : Outcome → Counter
  | .successful => .startsSuccessful
  | .failed => .startsFailed
  | .unconfirmed => .startsUnconfirmed

/-- Closes the pending attempt (R56): the start group in one step, then the charges of a cold attempt. -/
def closeAttempt (o : Outcome) (s : State) : State :=
  let s := s.setTable (tableClose s.hireOpen o.counter.number s.start.cold s.table)
  if s.start.cold then
    let s := s.raise .starterUnits 20
    if o = .successful then s.raise .equivalentTime s.profile.coldCharge else s
  else s

/-! ## Cranks (R57, R59) -/

/-- Whether the effective COOLANT value is known and below the cold limit (R57). -/
def State.coldNow (s : State) : Bool :=
  match s.effectiveNum .coolant with
  | some v => decide (v < s.profile.coldLimit)
  | none => false

/-- An attempt begins at a time, as from STOPPED (R57). -/
def beginAttempt (atMs : Nat) (s : State) : State :=
  s.setStart { s.start with
    state := .cranking, begunMs := atMs, cold := s.coldNow
    longTimer := s.timerIn (s.profile.longCrankLimit * 1000000) }

/-- A crank begin (R57).  In CRANKING a crank is in progress, and no second one can begin.  One that was held for
a pass (R45) reads COOLANT and ENGINE SPEED when it is taken.  DESIGN CHOICE: log entry 58. -/
def crankBegin (atMs : Nat) (s : State) : State :=
  match s.start.state with
  | .stopped => beginAttempt atMs s
  | .confirming => beginAttempt atMs (closeAttempt .failed s)
  | .running =>
    let s := s.raise .cranksWhileRunning 1
    let s := createEntry .crankWhileRunning none ((s.effectiveNum .engineSpeed).getD 0).toNat 0 s
    s.setStart { s.start with begunMs := atMs, inCrank := true }
  | .cranking => s

/-- Credits a crank's duration through the crank millisecond remainder (R59). -/
def creditCrank (atMs : Nat) (s : State) : State :=
  let m := s.start.crankMs + (atMs - s.start.begunMs)
  let s := s.setStart { s.start with crankMs := m % 100 }
  (s.raise .crankTime (m / 100)).raise .starterUnits (m / 100)

/-- A crank end (R59).  Without a crank in progress there is nothing to end. -/
def crankEnd (atMs : Nat) (s : State) : State :=
  match s.start.state with
  | .cranking =>
    let s := creditCrank atMs s
    let s := s.setStart { s.start with
      state := .confirming, longTimer := none, window := 0, confirmed := 0, speedSeen := false }
    clearCondition 2 s
  | .running =>
    if s.start.inCrank then
      let s := creditCrank atMs s
      s.setStart { s.start with inCrank := false }
    else s
  | .stopped | .confirming => s

/-- The expiry of the long-crank timer of the crank begun at a time (R58); a crank that has ended first
is not counted. DEDUCED: log entry 11. -/
def longCrank (begunMs : Nat) (s : State) : State :=
  if s.start.state = .cranking ∧ s.start.begunMs = begunMs then
    let s := s.raise .longCranks 1
    let s := createEntry .longCrank none s.profile.longCrankLimit (if s.start.cold then 1 else 0) s
    setCondition 2 s
  else s

/-! ## Watchers (R69 to R72) -/

/-- The clutch watcher takes a change of effective CLUTCH ENGAGEMENT (R69, R70). -/
def clutchChange (v : Option Int) (s : State) : State :=
  match v with
  | none => s
  | some c =>
    if c < 10 ∧ s.trackers.clutch.disengaged = false then
      s.setTrackers { s.trackers with
        clutch := { disengaged := true, recorded := s.effectiveNum .vehicleSpeed } }
    else if 90 < c ∧ s.trackers.clutch.disengaged = true then
      let launch := match s.trackers.clutch.recorded with
        | none => true
        | some r => decide (r < 20)
      let s := s.raise .engagements 1
      let s := if launch then s.raise .launches 1 else s
      s.setTrackers { s.trackers with clutch := { disengaged := false, recorded := none } }
    else s

/-- Whether a shift is one to reverse out of a forward gear at or above the reversal speed, and at which
speed (R72). -/
def State.misuseSpeed (s : State) (previous now : Int) : Option Int :=
  if now = -1 ∧ 1 ≤ previous then
    match s.effectiveNum .vehicleSpeed with
    | some v => if (s.profile.reversalSpeed : Int) ≤ v then some v else none
    | none => none
  else none

/-- The gear watcher takes a change of effective GEAR (R71, R72); UNKNOWN is `none`. -/
def gearChange (previous now : Option Int) (s : State) : State :=
  match previous, now with
  | some p, some g =>
    let s := s.raise .shifts 1
    match s.misuseSpeed p g with
    | some v =>
      let s := s.raise .misuseReverses 1
      setPulse .misuseReverse (createEntry .misuseReverse none v.toNat p.toNat s)
    | none => s
  | _, _ => s

/-! ## Detections (R38) -/

/-- The effects of a shaft reversal detected at a speed. -/
def reversalEffects (rpm : Nat) (s : State) : State :=
  setPulse .shaftReversal (createEntry .shaftReversal none rpm 0 (s.raise .shaftReversals 1))

/-- The effects of a shock detected between two periods. -/
def shockEffects (p1 p2 : Nat) (s : State) : State :=
  setPulse .drivelineShock (createEntry .drivelineShock none p1 p2 (s.raise .shocks 1))

/-! ## Held events (R45) -/

/-- Takes one event of the event side.  The watchers do not use the time of a change (R69 to R72). -/
def takeEvent (e : TallyEvent) (s : State) : State :=
  match e with
  | .crankBegin t => crankBegin t s
  | .crankEnd t => crankEnd t s
  | .gear _ p g => gearChange p g s
  | .clutch _ v => clutchChange v s
  | .longCrank t => longCrank t s
  | .shaftReversal rpm => reversalEffects rpm s
  | .shock p1 p2 => shockEffects p1 p2 s

/-- An event arrives: it is held while a pass runs, and taken at once otherwise (R45). -/
def deliver (e : TallyEvent) (s : State) : State :=
  if s.arbiter.unit = .pass then
    s.setArbiter { s.arbiter with held := s.arbiter.held ++ [{ arrivedMs := s.nowMs, event := e }] }
  else takeEvent e s

end Sys2Proof.Machine
end

