-- ==== Sys2Proof/Machine/Reports.lean ====
section
/-! DEFINITION. What follows from a change on the signal board: SIGNAL LOST (R21), the changes handed on (R22)
and the calendar base (R23); and the reports and expiries that reach the board (R15 to R20, R28, R39). -/

namespace Sys2Proof.Machine

/-! ## SIGNAL LOST (R21) -/

/-- Whether a tally-relevant slot is LOST. -/
def anyRelevantLost (b : Board) : Bool :=
  Signal.all.any fun sig => Signal.tallyRelevant sig && (b.slots[sig.code]).state == .lost

/-- A slot has entered LOST: the entry and the condition of R21 while the start machine is RUNNING. -/
def slotEnteredLost (sig : Signal) (s : State) : State :=
  if Signal.tallyRelevant sig && s.start.state == .running then
    setCondition 6 (createEntry .signalLost none sig.code.val 0 s)
  else s

/-- A slot has left LOST: the condition is cleared when no tally-relevant slot remains LOST. -/
def slotLeftLost (s : State) : State :=
  if anyRelevantLost s.board then s else clearCondition 6 s

/-! ## Changes handed on (R22) -/

/-- CRANK as counted, against the value last handed. -/
def handCrank (atMs : Nat) (s : State) : State :=
  let on := countsAsOne (s.effective .crank)
  if on = s.board.handedCrank then s
  else deliver (if on then .crankBegin atMs else .crankEnd atMs)
    (s.setBoard { s.board with handedCrank := on })

/-- IGNITION as counted; it goes to the mode controller, which takes it as it comes (R45). -/
def handIgnition (atMs : Nat) (s : State) : State :=
  if s.ignitionOn = s.board.handedIgnition then s
  else ignitionChange s.ignitionOn atMs (s.setBoard { s.board with handedIgnition := s.ignitionOn })

/-- GEAR, a slot without an effective value counting as UNKNOWN. -/
def handGear (atMs : Nat) (s : State) : State :=
  let g := s.effectiveNum .gear
  if g = s.board.handedGear then s
  else deliver (.gear atMs s.board.handedGear g) (s.setBoard { s.board with handedGear := g })

/-- CLUTCH ENGAGEMENT, including a change to no effective value. -/
def handClutch (atMs : Nat) (s : State) : State :=
  let v := s.effectiveNum .clutchEngagement
  if v = s.board.handedClutch then s
  else deliver (.clutch atMs v) (s.setBoard { s.board with handedClutch := v })

/-- Hands on the change of a signal, if there is one, with its time (R22). -/
def hand (sig : Signal) (atMs : Nat) (s : State) : State :=
  match sig with
  | .crank => handCrank atMs s
  | .ignition => handIgnition atMs s
  | .gear => handGear atMs s
  | .clutchEngagement => handClutch atMs s
  | .engineSpeed | .engineTorque | .coolant | .inputShaftSpeed | .vehicleSpeed | .gridSelect
  | .calendar => s

/-- Replaces a slot of the board. -/
def putSlot (sig : Signal) (sl : Slot) (s : State) : State :=
  s.setBoard { s.board with slots := s.board.slots.set sig.code sl }

/-- A slot changes at a time: its state and effective value, SIGNAL LOST, and what is handed on. -/
def changeSlot (sig : Signal) (atMs : Nat) (sl : Slot) (s : State) : State :=
  let before := (s.slot sig).state
  let s := putSlot sig sl s
  let s := if before ≠ .lost ∧ sl.state = .lost then slotEnteredLost sig s else s
  let s := if before = .lost ∧ sl.state ≠ .lost then slotLeftLost s else s
  hand sig atMs s

/-! ## Reports and expiries -/

/-- The calendar base of a CALENDAR report that sets the effective value (R23). -/
def takeCalendar (v : Value) (s : State) : State :=
  match v with
  | .num n =>
    s.setControl { s.control with
      calendar := some { value := n.toNat, takenAt := s.control.partSeconds } }
  | .unknown => s

/-- Whether a fresh report at a rank sets the effective value of its slot (R19, R23). -/
def setsEffective (rank : Rank) (sl : Slot) : Bool := rank == .primary || sl.state != .freshPrimary

/-- A bus report with a value is handed to the board (R15); only a BUS origin takes it. -/
def busReport (sig : Signal) (rank : Rank) (v : Value) (receivedMs limitMs : Nat) (s : State) : State :=
  let sl := s.slot sig
  if (sl.origin rank).kind = .bus then
    let age := s.nowMs - receivedMs
    let s := if sig = .calendar ∧ age < limitMs ∧ setsEffective rank sl = true then takeCalendar v s else s
    changeSlot sig (if age < limitMs then receivedMs else s.nowMs)
      (slotBusReport s.clock.now rank v receivedMs limitMs age sl) s
  else s

/-- An origin expires now: a not-available report (R16) or its freshness timer (R17). -/
def expireOrigin (sig : Signal) (rank : Rank) (s : State) : State :=
  changeSlot sig s.nowMs (slotExpire s.clock.now rank (s.slot sig)) s

/-- A not-available report is handed to the board (R16). -/
def notAvailableReport (sig : Signal) (rank : Rank) (s : State) : State :=
  if ((s.slot sig).origin rank).kind = .bus then expireOrigin sig rank s else s

/-- The input unit hands a report to every origin of a kind of a signal (R28, R39). -/
def inputReport (sig : Signal) (kind : OriginKind) (v : Int) (atMs : Nat) (s : State) : State :=
  changeSlot sig atMs (slotInputReports kind (.num v) atMs (s.slot sig)) s

end Sys2Proof.Machine
end

