-- ==== Sys2Proof/Machine/Sources.lean ====
section
/-! DEFINITION. The source matcher (R4, R5), the intake (R6 to R8) and the decode of one slot (R9). -/

namespace Sys2Proof.Machine

/-! ## Matching (R4, R5) -/

/-- The identifier positions that count for a format: 29, or the low 11 (R2). -/
def formatMask (extended : Bool) : BitVec 32 := if extended then 0x1FFFFFFF#32 else 0x7FF#32

/-- Whether a received frame matches a source table entry (R4). -/
def entryMatches (e : SourceEntry) (f : Frame) : Bool :=
  e.valid && !f.remote && f.extended == e.extended
    && ((f.ident.zeroExtend 32 ^^^ e.ident) &&& e.mask &&& formatMask e.extended) == 0

/-- The matched set from an ACCEPT entry on (R5): the matching ACCEPT entries up to the first matching
REJECT entry. -/
def acceptsUntilReject (table : Vector SourceEntry 16) (f : Frame) : List (Fin 16) → List (Fin 16)
  | [] => []
  | i :: l =>
    if entryMatches table[i] f then
      if table[i].reject then [] else i :: acceptsUntilReject table f l
    else acceptsUntilReject table f l

/-- The matched set of a frame (R5): empty where it is discarded, because no entry matches or the first
match is a REJECT entry. -/
def matchedSet (table : Vector SourceEntry 16) (f : Frame) : List (Fin 16) :=
  acceptsUntilReject table f (List.finRange 16)

/-! ## Admission (R6 to R8) -/

/-- A frame has class HIGH when an entry of its matched set has (R6). -/
def classHigh (table : Vector SourceEntry 16) (matched : List (Fin 16)) : Bool :=
  matched.any fun i => table[i].high

/-- The intake slot of an admitted frame (R8). -/
def slotFor (f : Frame) (receivedMs : Nat) (matched : List (Fin 16)) : IntakeSlot :=
  { extended := f.extended, ident := f.ident, length := f.length, data := f.data
    receivedMs := receivedMs, matched := matched }

/-- The intake after the offer of a frame with a matched set (R6, R7): admitted, refused or dropped. -/
def offerSlot (high : Bool) (reserve : Nat) (x : IntakeSlot) (i : Intake) : Intake :=
  let free := Config.intakePlaces - i.slots.length
  if high then
    if 0 < free then { i with slots := i.slots ++ [x] }
    else { i with overruns := capAdd ceiling16 i.overruns 1 }
  else if reserve < free then { i with slots := i.slots ++ [x] }
  else { i with refusals := capAdd ceiling16 i.refusals 1 }

/-- The source matcher examines a received frame (R5, R6). -/
def examine (f : Frame) (s : State) : State :=
  let matched := matchedSet s.profile.entries f
  if matched = [] then s
  else s.setIntake (offerSlot (classHigh s.profile.entries matched) s.profile.intakeReserve
    (slotFor f s.nowMs matched) s.intake)

/-! ## Decoding one slot (R9) -/

/-- The rank an entry feeds. -/
def SourceEntry.rank (e : SourceEntry) : Rank := if e.alternate then .alternate else .primary

/-- One entry of a slot's matched set: its field is extracted, counted and handed to the board. -/
def decodeEntry (x : IntakeSlot) (i : Fin 16) (s : State) : State :=
  let e := s.profile.entries[i]
  match Signal.ofCode e.signalCode with
  | none => s
  | some sig =>
    let r := extract e sig x.length x.data
    let s := s.setIntake { s.intake with health := s.intake.health.set i (s.intake.health[i].count r) }
    match r with
    | .short => s
    | .notAvailable => notAvailableReport sig e.rank s
    | .value v _ => busReport sig e.rank v x.receivedMs (10 * e.staleness) s

/-- The decode of a slot: its entries in index order (R9). -/
def decodeEntries (x : IntakeSlot) (s : State) : State :=
  x.matched.foldl (fun s i => decodeEntry x i s) s

end Sys2Proof.Machine
end

