-- ==== Sys2Proof/Machine/Tally.lean ====
section
/-! DEFINITION. The tally pass (R46, R47): its sample and its twelve stages (R49 to R54, R60 to R68, R73 to R77,
R90). -/

namespace Sys2Proof.Machine

/-! ## The sample (R46) -/

/-- The sample of a pass: N, T, θ, Ni, G, V, C, S and I, the state of every slot, the edge counts, the power
mode, and whether a hire is open.  A value is `none` while unknown, which is not the value UNKNOWN that
GEAR may have (R24). -/
structure Sample where
  n        : Option Int
  t        : Option Int
  coolant  : Option Int
  ni       : Option Int
  g        : Option Value
  v        : Option Int
  c        : Option Int
  gridB    : Bool
  ignition : Bool
  states   : Vector SlotState 11
  forward  : Nat
  reverse  : Nat
  mode     : PowerMode
  hireOpen : Bool
  deriving DecidableEq, Repr

/-- The sample taken now. -/
def State.sample (s : State) : Sample :=
  { n := s.effectiveNum .engineSpeed, t := s.effectiveNum .engineTorque
    coolant := s.effectiveNum .coolant
    ni := s.effectiveNum .inputShaftSpeed, g := s.effective .gear
    v := s.effectiveNum .vehicleSpeed, c := s.effectiveNum .clutchEngagement
    gridB := countsAsOne (s.effective .gridSelect), ignition := s.ignitionOn
    states := s.board.slots.map Slot.state
    forward := s.inputs.shaft.forward, reverse := s.inputs.shaft.reverse
    mode := s.control.mode, hireOpen := s.hireOpen }

/-- The edge counts set to 0 in the step that reads them (R40). -/
def clearEdges (s : State) : State :=
  s.setInputs { s.inputs with shaft := { s.inputs.shaft with forward := 0, reverse := 0 } }

/-- Whether a sampled value is known and at or above a limit. -/
def atLeast (v : Option Int) (limit : Int) : Bool :=
  match v with
  | some x => decide (limit ≤ x)
  | none => false

/-- Whether a sampled value is known and below a limit. -/
def below (v : Option Int) (limit : Int) : Bool :=
  match v with
  | some x => decide (x < limit)
  | none => false

/-- Whether the start machine is RUNNING, assumed or not (R46). -/
def State.running (s : State) : Bool := s.start.state == .running

/-- Whether N is known and at or above the run threshold (R60 to R62, R54). -/
def State.turning (s : State) (x : Sample) : Bool := atLeast x.n s.profile.runThreshold

/-! ## Stage 1: the start machine's tick work (R60, R61, R62) -/

/-- The start machine enters RUNNING (R60, R62). -/
def enterRunning (assumed : Bool) (s : State) : State :=
  s.setStart { s.start with state := .running, assumed := assumed, stopCount := 0 }

/-- A window pass (R60). -/
def windowPass (x : Sample) (s : State) : State :=
  let s := s.setStart { s.start with
    window := s.start.window + 1
    speedSeen := s.start.speedSeen || x.n.isSome
    confirmed := if s.turning x then s.start.confirmed + 1 else 0 }
  if 20 ≤ s.start.confirmed then enterRunning false (closeAttempt .successful s)
  else if 50 ≤ s.start.window then
    if s.start.speedSeen then
      let s := closeAttempt .failed s
      s.setStart { s.start with state := .stopped }
    else enterRunning true (closeAttempt .unconfirmed s)
  else s

/-- The engine has stopped (R61): with a crank in progress that crank ends, and a new attempt begins, at
the pass's start time. -/
def engineStopped (s : State) : State :=
  let s := s.raise .engineStops 1
  let s := s.setStart { s.start with stopCount := 0, assumed := false }
  if s.start.inCrank then beginAttempt s.nowMs (crankEnd s.nowMs s)
  else s.setStart { s.start with state := .stopped }

/-- Tick work in RUNNING (R61). -/
def runningPass (x : Sample) (s : State) : State :=
  let s := s.setStart { s.start with assumed := s.start.assumed && !s.turning x }
  if below x.n s.profile.runThreshold || (x.n.isNone && !x.ignition) then
    let s := s.setStart { s.start with stopCount := s.start.stopCount + 1 }
    if 30 ≤ s.start.stopCount then engineStopped s else s
  else s.setStart { s.start with stopCount := 0 }

/-- Stage 1. -/
def stageStart (x : Sample) (s : State) : State :=
  match s.start.state with
  | .confirming => windowPass x s
  | .running => runningPass x s
  | .stopped => if s.turning x then enterRunning false (s.raise .unobservedStarts 1) else s
  | .cranking => s

/-! ## Stages 2 to 5: time and engine (R49, R50, R52, R53) -/

/-- Stage 2 (R49). -/
def stageRunTime (x : Sample) (s : State) : State :=
  if s.running then
    let s := (s.raise .runTime 1).raise (.gearTime (gearIndex (x.g.bind Value.num?))) 1
    if x.hireOpen then s else s.raise .unhiredRunTime 1
  else s

/-- Whether the truck counts as standing for IDLE TIME (R50): V below 2.0 km/h, or unknown. -/
def standing (x : Sample) : Bool := x.v.isNone || below x.v 20

/-- Stage 3 (R50). -/
def stageIdle (x : Sample) (s : State) : State :=
  if s.running && below x.n s.profile.idleCeiling && standing x then s.raise .idleTime 1 else s

/-- The weight of a pass and whether it is unverified (R52). -/
def passWeight (p : Profile) (x : Sample) : Nat × Bool :=
  match x.n, x.t with
  | some n, some t => (gridWeight p x.gridB n t, false)
  | _, _ => (p.fallbackWeight, true)

/-- Stage 4 (R52). -/
def stageEquivalent (x : Sample) (s : State) : State :=
  if s.running then
    let w := passWeight s.profile x
    let s := if w.2 then s.raise .unverifiedTime 1 else s
    let r := s.remainders.engine + w.1
    (s.setRemainders { s.remainders with engine := r % 100 }).raise .equivalentTime (r / 100)
  else s

/-- The end of an overspeed episode (R53). -/
def endOverspeed (s : State) : State :=
  let o := s.trackers.overspeed
  let s := createEntry .overspeed none o.peak o.duration s
  let s := clearCondition 0 s
  s.setTrackers { s.trackers with overspeed := { s.trackers.overspeed with active := false } }

/-- Stage 5 (R53). DEDUCED: log entry 28. -/
def stageOverspeed (x : Sample) (s : State) : State :=
  let n := (x.n.getD 0).toNat
  if s.trackers.overspeed.active then
    if !s.running || !atLeast x.n ((s.profile.overspeedLimit : Int) - 100) then endOverspeed s
    else
      let o := s.trackers.overspeed
      (s.raise .overspeedTime 1).setTrackers { s.trackers with
        overspeed := { o with peak := max o.peak n, duration := capAdd ceiling16 o.duration 1 } }
  else if s.running && atLeast x.n s.profile.overspeedLimit then
    let s := (s.raise .overspeedEpisodes 1).raise .overspeedTime 1
    let s := s.setTrackers { s.trackers with overspeed := { active := true, peak := n, duration := 1 } }
    setCondition 0 s
  else s

/-! ## Stages 6 and 7: the clutch (R64 to R68) -/

/-- The slip product of a pass (R64), `none` where clutch work does not apply. -/
def slipProduct (running : Bool) (x : Sample) : Option Nat :=
  match x.n, x.t, x.ni, x.c with
  | some n, some t, some ni, some c =>
    if running && decide (5 ≤ c) && decide (c ≤ 95) then
      some ((max t 0 * c / 100).toNat * (n - ni).natAbs)
    else none
  | _, _, _, _ => none

/-- The slip power of a pass in kW (R64). -/
def slipPower (p : Option Nat) : Nat := p.getD 0 / Config.slipPowerUnit

/-- Stage 6 (R65). -/
def stageClutchWork (x : Sample) (s : State) : State :=
  match slipProduct s.running x with
  | some p =>
    let q := s.remainders.clutch + p
    (s.setRemainders { s.remainders with clutch := q % Config.clutchWorkUnit }).raise .clutchWork
      (q / Config.clutchWorkUnit)
  | none => s

/-- The clutch hot tracker at rest. -/
def ClutchHot.idle : ClutchHot := { active := false, hot := 0, cool := 0, peak := 0, duration := 0 }

/-- Replaces the clutch hot tracker. -/
def State.setHot (s : State) (h : ClutchHot) : State := s.setTrackers { s.trackers with clutchHot := h }

/-- The end of a clutch hot episode (R68). -/
def endHot (s : State) : State :=
  let h := s.trackers.clutchHot
  (clearCondition 1 (createEntry .clutchHot none h.peak h.duration s)).setHot .idle

/-- Stage 7 in NONE (R67). -/
def hotNone (kw : Nat) (s : State) : State :=
  let h := s.trackers.clutchHot
  if s.profile.hotLimit ≤ kw then
    if 30 ≤ h.hot + 1 then
      let s := (s.raise .hotEpisodes 1).raise .hotTime 30
      setCondition 1 (s.setHot
        { active := true, hot := h.hot + 1, cool := 0, peak := max h.peak kw, duration := 30 })
    else s.setHot { h with hot := h.hot + 1, peak := max h.peak kw }
  else s.setHot { h with hot := 0, peak := 0 }

/-- Stage 7 in ACTIVE (R68). -/
def hotActive (kw : Nat) (s : State) : State :=
  let h := s.trackers.clutchHot
  if !s.running then endHot s
  else if s.profile.hotLimit ≤ kw then
    (s.raise .hotTime 1).setHot
      { h with cool := 0, peak := max h.peak kw, duration := capAdd ceiling16 h.duration 1 }
  else if 30 ≤ h.cool + 1 then endHot s
  else
    (s.raise .hotTime 1).setHot
      { h with cool := h.cool + 1, duration := capAdd ceiling16 h.duration 1 }

/-- Stage 7. -/
def stageClutchHot (x : Sample) (s : State) : State :=
  let kw := slipPower (slipProduct s.running x)
  if s.trackers.clutchHot.active then hotActive kw s else hotNone kw s

/-! ## Stages 8 and 9: distance and driveline (R73 to R77) -/

/-- Stage 8, DISTANCE (R73). -/
def stageDistance (x : Sample) (s : State) : State :=
  match x.v with
  | some v =>
    let d := s.remainders.distance + v.toNat
    (s.setRemainders { s.remainders with distance := d % Config.distanceUnit }).raise .distance
      (d / Config.distanceUnit)
  | none => s

/-- Stage 8, MOVING TIME (R74). -/
def stageMoving (x : Sample) (s : State) : State :=
  if atLeast x.v 20 then s.raise .movingTime 1 else s

/-- The quiet count of the unhired move tracker after a pass (R76). -/
def quietAfter (x : Sample) (quiet : Nat) : Nat :=
  if below x.v 20 then min 600 (quiet + 1) else if atLeast x.v 20 then 0 else quiet

/-- Stage 8, the unhired move tracker (R76). -/
def stageUnhiredMove (x : Sample) (s : State) : State :=
  let u := s.trackers.unhiredMove
  let quiet := quietAfter x u.quiet
  let armed := u.armed || decide (600 ≤ quiet)
  let move := if !x.hireOpen && atLeast x.v 20 then min 50 (u.move + 1) else 0
  if 50 ≤ move ∧ armed = true then
    let s := createEntry .unhiredMove none (x.v.getD 0).toNat 0 s
    s.setTrackers { s.trackers with unhiredMove := { armed := false, move := move, quiet := quiet } }
  else s.setTrackers { s.trackers with unhiredMove := { armed := armed, move := move, quiet := quiet } }

/-- Stage 9 (R77). -/
def stageRevolutions (x : Sample) (s : State) : State :=
  if s.profile.teeth = 0 then s
  else
    let e := edgesPerRevolution s.profile
    let f := s.remainders.forward + x.forward
    let r := s.remainders.reverse + x.reverse
    ((s.setRemainders { s.remainders with forward := f % e, reverse := r % e }).raise
      .forwardRevolutions (f / e)).raise .reverseRevolutions (r / e)

/-! ## Stages 10 to 12 (R54, R90, R63) -/

/-- Stage 10 (R54). -/
def stageDisagreement (x : Sample) (s : State) : State :=
  let d := s.trackers.disagreement
  if !x.ignition && s.turning x then
    let count := min 50 (d.count + 1)
    if 50 ≤ count ∧ d.flag = false then
      let s := createEntry .ignitionDisagreement none (x.n.getD 0).toNat 0 s
      s.setTrackers { s.trackers with disagreement := { count := count, flag := true } }
    else s.setTrackers { s.trackers with disagreement := { d with count := count } }
  else s.setTrackers { s.trackers with disagreement := { count := 0, flag := false } }

/-- The notice source of a member (R138). -/
def dueSource (m : Fin 5) : Fin 14 := ⟨9 + m.val, by omega⟩

/-- The due state of a member set. -/
def setDue (m : Fin 5) (b : Bool) (s : State) : State :=
  s.setTable { s.table with due := s.table.due.set m b }

/-- The wear check of one member (R90). -/
def checkMember (m : Fin 5) (s : State) : State :=
  let now := isDue s.profile.limits s.table m
  match s.table.due[m], now with
  | false, true =>
    let fraction := wearFraction s.profile.limits s.table m
    setCondition (dueSource m)
      (createEntry .serviceDue (some m.val) fraction 0 (setDue m true s))
  | true, false => clearCondition (dueSource m) (setDue m false s)
  | _, _ => s

/-- Stage 11 (R90): the members in order. -/
def stageWear (s : State) : State := (List.finRange 5).foldl (fun s m => checkMember m s) s

/-- Stage 12 (R63). -/
def stagePeriodic (x : Sample) (s : State) : State :=
  if x.mode = .run then
    if 3600 ≤ s.trackers.runPasses + 1 then
      checkpointTrigger .periodic (s.setTrackers { s.trackers with runPasses := 0 })
    else s.setTrackers { s.trackers with runPasses := s.trackers.runPasses + 1 }
  else s

/-- The twelve stages in order (R47). -/
def passStages (x : Sample) (s : State) : State :=
  let s := stageOverspeed x (stageEquivalent x (stageIdle x (stageRunTime x (stageStart x s))))
  let s := stageClutchHot x (stageClutchWork x s)
  let s := stageUnhiredMove x (stageMoving x (stageDistance x s))
  stagePeriodic x (stageWear (stageDisagreement x (stageRevolutions x s)))

/-- A tally pass (R46, R47): the sample, with the edge counts read and cleared, and the stages. -/
def tallyPass (s : State) : State := passStages s.sample (clearEdges s)

end Sys2Proof.Machine
end

