-- ==== Sys2Proof/Machine/ArithmeticUnit.lean ====
section
/-! DEFINITION. The arbiter of the arithmetic unit (R43 to R45): whole steps, passes and decodes.  The effects of
a decode, a pass or a step are taken when the unit is granted; the unit stays held until it ends. -/

namespace Sys2Proof.Machine

/-- Replaces the state of the arithmetic unit. -/
def State.setUnit (s : State) (u : UnitState) : State := s.setArbiter { s.arbiter with unit := u }

/-- The cyclic page step (R177): the next page is built and offered, and the timer loaded again while the
part is awake. DEDUCED: log entry 30. -/
def buildPage (s : State) : State :=
  let page := pageFrame s s.server.nextPage
  let s := s.setServer { s.server with
    nextPage := (s.server.nextPage + 1) % 8
    pageTimer := if s.awake then s.timerIn (pageIntervalUs s.profile s.link.pacing) else none }
  offerSummary page s

/-- The work of a whole step (R44). -/
def performStep (w : WholeStep) (s : State) : State :=
  match w with
  | .request => executeHead s
  | .page => buildPage s
  | .snapshot => takeSnapshot s

/-- The unit is granted to a whole step. DESIGN CHOICE: log entry 8. -/
def grantStep (w : WholeStep) (s : State) : State := performStep w (s.setUnit (.step w))

/-- The unit is granted to a new pass. DESIGN CHOICE: log entry 8. -/
def grantPass (s : State) : State := tallyPass (s.setUnit .pass)

/-- The unit is granted to the decode unit for a slot. DESIGN CHOICE: log entry 8. -/
def grantDecode (x : IntakeSlot) (s : State) : State := decodeEntries x (s.setUnit .decode)

/-- The unit is granted as at a decode completion (R43): the oldest waiting step, a waiting tick, the
oldest intake slot, or FREE. -/
def grantUnit (s : State) : State :=
  match s.arbiter.steps with
  | w :: rest => grantStep w (s.setArbiter { s.arbiter with steps := rest })
  | [] =>
    if s.arbiter.tickWaiting then grantPass (s.setArbiter { s.arbiter with tickWaiting := false })
    else match s.intake.slots with
      | x :: _ => grantDecode x s
      | [] => s.setUnit .free

/-- A whole step falls due (R43): it is taken at once by a FREE unit, and waits otherwise. -/
def dueStep (w : WholeStep) (s : State) : State :=
  if s.arbiter.unit = .free then grantStep w s
  else s.setArbiter { s.arbiter with steps := s.arbiter.steps ++ [w] }

/-- A tally tick (R43). -/
def dueTick (s : State) : State :=
  if s.arbiter.unit = .free then grantPass s
  else s.setArbiter { s.arbiter with tickWaiting := true }

/-- The intake has become not empty (R43): a FREE unit decodes its oldest slot. -/
def dueDecode (s : State) : State :=
  if s.arbiter.unit = .free then
    match s.intake.slots with
    | x :: _ => grantDecode x s
    | [] => s
  else s

/-- The events held for a pass taken in arrival order (R45). DEDUCED: log entry 10. -/
def takeHeld (l : List HeldEvent) (s : State) : State := l.foldl (fun s e => takeEvent e.event s) s

/-- A pass completes (R43 to R45, R82): the held events are taken, then the end of a closing that has waited for
the pass, then the unit is granted.  DEDUCED: log entry 41. -/
def completePass (s : State) : State :=
  let held := s.arbiter.held
  grantUnit (takeEnding (takeHeld held (s.setArbiter { s.arbiter with unit := .free, held := [] })))

/-- A request row's event (R164): the head of the request list is executed where it is of the row; with
the arithmetic unit where it needs that. -/
def serveRow (row : Asked) (s : State) : State :=
  match s.server.requests with
  | [] => s
  | r :: _ =>
    if asked r = row ∧ s.serverReady = true then
      if needsUnit r s then dueStep .request s else executeRequest r s
    else s

end Sys2Proof.Machine
end

