-- ==== Sys2Proof/Machine/BusCommands.lean ====
section
/-! DEFINITION. The commands of the link unit: BUS_JOIN, FRAME_RECEIVED, RECEIVE_ERROR, STREAM_GAP_EXPIRY,
TRANSMIT_SUCCESS, LOST_ARBITRATION, TRANSMIT_ERROR, BUS_OFF_RECOVERY and RECOVERY_COUNT_RUN
(chapter 10). -/

namespace Sys2Proof.Machine

/-! ## Joining and receiving -/

/-- The wait for 11 recessive bits has ended (R161); no attempt of the part is on the bus then. -/
def joinBus (s : State) : State :=
  if s.link.participation = .joining ∨ s.link.participation = .rejoining then
    s.setLink { s.link with participation := .joined }
  else s

/-- BUS_JOIN (R161). -/
def execBusJoin (dt : Nat) (s : State) : StepResult := event dt joinBus s

/-- Whether an identifier lies in the part's block (R150). -/
def inBlock (base : BitVec 32) (ident : BitVec 29) : Bool := ident.toNat / 256 == base.toNat / 256

/-- The request that a frame in the part's block carries (R151), `none` for an ignored one. -/
def requestOf (f : Frame) : Option Request :=
  let offset := f.ident.toNat % 256
  if f.remote then
    if 0x40 ≤ offset ∧ offset ≤ 0x47 then
      some { frame := .page (offset - 0x40), length := f.length, data := [] }
    else none
  else if offset = 0x08 then some { frame := .request, length := f.length, data := f.data }
  else if offset = 0x09 then some { frame := .hold, length := f.length, data := f.data }
  else if offset = 0x0A then some { frame := .hireControl, length := f.length, data := f.data }
  else none

/-- A request frame is taken where its answer size is no greater than the available places (R163); once
the restart flag is set none is taken (R186). -/
def takeRequest (r : Request) (s : State) : State :=
  if answerSize r ≤ s.availablePlaces ∧ s.control.restart = none then
    s.setServer { s.server with requests := s.server.requests ++ [r] }
  else s

/-- The sorting of a received frame (R151). -/
def sortFrame (f : Frame) (s : State) : State :=
  if f.extended && inBlock s.profile.base f.ident then
    match requestOf f with
    | some r => takeRequest r s
    | none => s
  else dueDecode (examine f s)

/-- Whether the part receives (R156, R161). -/
def State.receives (s : State) : Bool := s.onBus && !s.busOff

/-- A frame reaches its end without error (R151, R152, R180): it is acknowledged, counts as bus activity
and is sorted. -/
def receiveFrame (f : Frame) (s : State) : State :=
  if s.receives then sortFrame f (busActivity (s.setLink (acceptFrame s.link))) else s

/-- FRAME_RECEIVED (R151). -/
def execFrameReceived (dt : Nat) (f : Frame) (s : State) : StepResult := event dt (receiveFrame f) s

/-- A receive error (R152): the error flag is that of the link state at the error. -/
def receiveError (dominantAfterFlag : Bool) (s : State) : State :=
  if s.receives then
    s.setLink { raiseRec dominantAfterFlag s.link with drive := errorFlag s.link }
  else s

/-- RECEIVE_ERROR (R152). -/
def execReceiveError (dt : Nat) (dominantAfterFlag : Bool) (s : State) : StepResult :=
  event dt (receiveError dominantAfterFlag) s

/-! ## Sending -/

/-- The end of the least gap after the last STREAM frame, by the pacing counter (R159). -/
def gapEnd (l : Link) : Timer := l.lastStreamEnd.map (· + leastGap l.pacing)

/-- STREAM_GAP_EXPIRY (R159): the queues are tested again. -/
def execStreamGapExpiry (s : State) : StepResult := expiry (gapEnd s.link) id s

/-- The item that a successfully sent frame closes counts as sent (R172). -/
def countSent (kind : FrameKind) (r : RunningStream) : RunningStream :=
  match kind with
  | .stream (.lastOfEntry seq) true => { r with sent := r.sent + 1, lastSent := some seq }
  | .stream .lastOfHire true => { r with sent := r.sent + 1 }
  | _ => r

/-- What the sending of a frame means to its sender: a STREAM frame starts the gap and may close an item;
the RESTART answer ends the mode controller's wait for it (R186). -/
def frameSent (kind : FrameKind) (s : State) : State :=
  match kind with
  | .stream _ _ =>
    let s := s.setLink { s.link with lastStreamEnd := some s.clock.now }
    s.setStream { s.stream with running := s.stream.running.map (countSent kind) }
  | .restartAnswer =>
    s.setControl { s.control with
      restart := s.control.restart.map fun w => { w with answered := true, timer := none } }
  | .answer | .notice | .summary => s

/-- The link after a success (R153, R160): TEC falls by 1, the transmitter is empty, the pacing counter falls
at a success of the first attempt. -/
def linkSuccess (attempts : Nat) (l : Link) : Link :=
  confine { l with
    tec := l.tec.map (· - 1), transmitter := none
    pacing := pacingAfterSuccess (attempts + 1) l.pacing, drive := .nothing }

/-- What the end of an attempt leaves in STARTING (R162): the attempt was one that a DEPOT RESTART let
complete, and the link unit is set now, its error flag being on the bus. DEDUCED: log entry 34. -/
def attemptOver (s : State) : State :=
  if s.control.mode = .starting then s.setLink { Link.reset with drive := s.link.drive } else s

/-- An attempt succeeds (R153). -/
def sendSucceeds (s : State) : State :=
  match s.link.transmitter with
  | some t =>
    if s.attempting then
      attemptOver (frameSent t.frame.kind (s.setLink (attemptEnded (linkSuccess t.attempts s.link))))
    else s
  | none => s

/-- TRANSMIT_SUCCESS (R153). -/
def execTransmitSuccess (dt : Nat) (s : State) : StepResult := event dt sendSucceeds s

/-- The link after a lost arbitration (R153, R160): the frame stays, its attempt counted. -/
def linkLost (t : Transmitter) (l : Link) : Link :=
  { l with
    transmitter := some { t with attempts := t.attempts + 1 }
    pacing := pacingAfterFailure (t.attempts + 1) l.pacing false, drive := .nothing }

/-- An attempt loses arbitration (R153); the winning frame's own end is a FRAME_RECEIVED or RECEIVE_ERROR.
DEDUCED: log entry 18. -/
def arbitrationLost (s : State) : State :=
  match s.link.transmitter with
  | some t => if s.attempting then attemptOver (s.setLink (attemptEnded (linkLost t s.link))) else s
  | none => s

/-- LOST_ARBITRATION (R153). -/
def execLostArbitration (dt : Nat) (s : State) : StepResult := event dt arbitrationLost s

/-- TEC after a transmit error (R154): unchanged in ERROR PASSIVE where only the acknowledgement is
missing, otherwise 8 more. -/
def tecAfterError (onlyMissingAck : Bool) (l : Link) : Nat :=
  if l.state = .errorPassive ∧ onlyMissingAck = true then l.tec.getD 0 else l.tec.getD 0 + 8

/-- The link after a transmit error that does not enter BUS OFF (R153 to R155, R160). -/
def linkError (t : Transmitter) (tec : Nat) (l : Link) : Link :=
  confine { l with
    tec := some tec
    transmitter := some { t with attempts := t.attempts + 1 }
    pacing := pacingAfterFailure (t.attempts + 1) l.pacing (l.state == .errorPassive)
    drive := errorFlag l }

/-- A transmit error (R154, R156, R174): a rise of TEC above 255 enters BUS OFF, which ends a running
stream. -/
def transmitError (onlyMissingAck : Bool) (s : State) : State :=
  match s.link.transmitter with
  | none => s
  | some t =>
    if s.attempting then
      let tec := tecAfterError onlyMissingAck s.link
      let l := attemptEnded (linkError t tec s.link)
      attemptOver (if 255 < tec then loseStream (s.setLink (enterBusOff l)) else s.setLink l)
    else s

/-- TRANSMIT_ERROR (R154). -/
def execTransmitError (dt : Nat) (onlyMissingAck : Bool) (s : State) : StepResult :=
  event dt (transmitError onlyMissingAck) s

/-! ## BUS OFF (R157) -/

/-- A run of 11 recessive bits in BUS OFF (R157), while the part takes part in the bus. -/
def countRun (s : State) : State :=
  if s.busOff && s.onBus then s.setLink { s.link with recovery := min 128 (s.link.recovery + 1) } else s

/-- RECOVERY_COUNT_RUN (R157). -/
def execRecoveryCountRun (dt : Nat) (s : State) : StepResult := event dt countRun s

/-- The link recovers, at an event of its own, once the recovery count has reached 128 (R157, R174).
DESIGN CHOICE: log entry 43. -/
def recoverLink (s : State) : State :=
  if s.busOff && decide (128 ≤ s.link.recovery) then
    payLostMark (s.setLink { s.link with
      tec := some 0, recCount := 0, state := .errorActive, warning := false })
  else s

/-- BUS_OFF_RECOVERY (R157). -/
def execBusOffRecovery (dt : Nat) (s : State) : StepResult := event dt recoverLink s

end Sys2Proof.Machine
end

