-- ==== Sys2Proof/Machine/InputUnit.lean ====
section
/-! DEFINITION. The input unit (chapter 2): the debounce of the sense lines (R25 to R30), the edge filter, edge
counts, periods and shaft speed (R31 to R36, R39) and the shock test (R37). -/

namespace Sys2Proof.Machine

/-! ## Sense lines -/

/-- The state of a sense line. -/
def Inputs.line (i : Inputs) : SenseLine → LineState
  | .ignition => i.ignition
  | .crank => i.crank
  | .clutchPedal => i.clutchPedal
  | .powerWarning => i.powerWarning

/-- Replaces the state of a sense line. -/
def Inputs.setLine (i : Inputs) (x : LineState) : SenseLine → Inputs
  | .ignition => { i with ignition := x }
  | .crank => { i with crank := x }
  | .clutchPedal => { i with clutchPedal := x }
  | .powerWarning => { i with powerWarning := x }

/-- Whether an electrical level is a line's active level (R25). -/
def activeLevel (l : LineSetting) (high : Bool) : Bool := high == l.activeHigh

/-- A line after an electrical change at a moment (R27): a departure from the qualified level starts a
measurement, a return ends it.  A line that is not watched only changes its level. -/
def lineMoved (l : LineSetting) (now nowMs : Nat) (high : Bool) (x : LineState) : LineState :=
  match x.qualified with
  | none => { x with high := high }
  | some q =>
    if high = x.high then x
    else if activeLevel l high = q then { x with high := high, measuring := none }
    else { x with
      high := high
      measuring := match x.measuring with
        | some m => some m
        | none => some { startMs := nowMs, endsAt := now + 1000 * debounceMs l } }

/-- A line after its change is qualified (R27). -/
def lineQualifiedNow (x : LineState) : LineState :=
  { x with qualified := x.qualified.map (!·), measuring := none }

/-- What a qualified level of a line hands on at a time (R28). -/
def handLine (line : SenseLine) (active : Bool) (atMs : Nat) (s : State) : State :=
  match line with
  | .ignition => inputReport .ignition .line (if active then 1 else 0) atMs s
  | .crank => inputReport .crank .line (if active then 1 else 0) atMs s
  | .clutchPedal => inputReport .clutchEngagement .line (if active then 0 else 100) atMs s
  | .powerWarning => if active then assertWarning s else deassertWarning s

/-- The qualification of a measured line (R27, R28). -/
def qualifyLine (line : SenseLine) (m : Measurement) (s : State) : State :=
  let x := lineQualifiedNow (s.inputs.line line)
  handLine line (x.qualified.getD false) (m.startMs + debounceMs (lineSetting s.profile line))
    (s.setInputs (s.inputs.setLine x line))

/-! ## Shaft lines (R32) -/

/-- A shaft line. -/
def ShaftUnit.pin (u : ShaftUnit) : ShaftLine → ShaftPin
  | .a => u.a
  | .b => u.b

/-- Replaces a shaft line. -/
def ShaftUnit.setPin (u : ShaftUnit) (p : ShaftPin) : ShaftLine → ShaftUnit
  | .a => { u with a := p }
  | .b => { u with b := p }

/-- A shaft line after a change of level at a moment (R32): a candidate begins, or a return cancels the
pending one.  A line that is not watched only changes its level. -/
def pinMoved (now : Nat) (high : Bool) (p : ShaftPin) : ShaftPin :=
  if high = p.high then p
  else match p.accepted with
    | none => { p with high := high }
    | some _ =>
      { p with high := high, candidate := if p.candidate.isSome then none else some now }

/-- Replaces the shaft unit. -/
def State.setShaft (s : State) (u : ShaftUnit) : State := s.setInputs { s.inputs with shaft := u }

/-- The shaft unit. -/
def State.shaft (s : State) : ShaftUnit := s.inputs.shaft

/-! ## Shaft speed (R34 to R36, R39) -/

/-- Whether VEHICLE SPEED has an origin of kind SHAFT. -/
def hasShaftOrigin (sl : Slot) : Bool := sl.primary.kind == .shaft || sl.alternate.kind == .shaft

/-- The vehicle speed of a shaft speed (R39). -/
def vehicleSpeedOf (p : Profile) (speed : Nat) : Nat := min 2500 (speed * p.speedFactor / 1000)

/-- The shaft speed takes a value at a moment; a vehicle speed that differs from the one last handed is
handed to the SHAFT origins (R39). -/
def setShaftSpeed (speed at_ : Nat) (s : State) : State :=
  let s := s.setShaft { s.shaft with speed := speed }
  let v := vehicleSpeedOf s.profile speed
  if hasShaftOrigin (s.slot .vehicleSpeed) && v != s.shaft.handedSpeed then
    inputReport .vehicleSpeed .shaft v (s.msAt at_) (s.setShaft { s.shaft with handedSpeed := v })
  else s

/-- The chain broken, with the last period dropped, and the shaft speed 0 (R35, R36). -/
def breakChain (at_ : Nat) (s : State) : State :=
  setShaftSpeed 0 at_ (s.setShaft { s.shaft with chain := none, period := none })

/-- Whether an accepted edge is counted (R33). -/
def isCounted (encodingCode : Nat) (line : ShaftLine) (rising : Bool) : Bool :=
  match line with
  | .a => rising || encodingCode == 1 || encodingCode == 2
  | .b => encodingCode == 2

/-- The direction of a counted edge by the accepted level of the other line (R33). -/
def edgeDirection (invert : Bool) (line : ShaftLine) (rising otherHigh : Bool) : Direction :=
  let forward := match line with
    | .a => rising != otherHigh
    | .b => rising == otherHigh
  if forward != invert then .forward else .reverse

/-- The edge counts after a counted edge (R33). -/
def countEdge (d : Direction) (u : ShaftUnit) : ShaftUnit :=
  match d with
  | .forward => { u with forward := capAdd ceiling u.forward 1, direction := some d }
  | .reverse => { u with reverse := capAdd ceiling u.reverse 1, direction := some d }

/-- A change of direction (R36): a reversal is detected at or above the reversal rpm in RUN or ATTEND,
and in any case the chain is broken.  With reversal rpm 0, which R31 allows, the comparison holds at
speed 0 too, at every rocking edge. DESIGN CHOICE: log entry 49. -/
def changeDirection (at_ : Nat) (s : State) : State :=
  let speed := s.shaft.speed
  let s := if s.profile.reversalRpm ≤ speed ∧ s.awake = true then deliver (.shaftReversal speed) s else s
  breakChain at_ s

/-- A counted edge of a direction (R33, R36). -/
def countedEdge (d : Direction) (at_ : Nat) (s : State) : State :=
  let s := match s.shaft.direction with
    | some d' => if d' = d then s else changeDirection at_ s
    | none => s
  s.setShaft (countEdge d s.shaft)

/-- The exact comparison of R37 for the ratio k/4, within 20,000 µs. -/
def periodsShock (k p1 p2 : Nat) : Bool :=
  decide (0 < k) && decide (max p1 p2 ≤ 20000)
    && decide (k * max p1 p2 < 4 * (max p1 p2 - min p1 p2))

/-- The shock test of a pair of periods whose second ends at a moment (R37).  Whether the hold-off runs is
tested at the acceptance of the edge, 20 µs after that moment. DESIGN CHOICE: log entry 50. -/
def testShock (p1 : Option Nat) (p2 at_ : Nat) (s : State) : State :=
  match p1 with
  | none => s
  | some p =>
    if periodsShock s.profile.shockRatio p p2 && s.awake && s.shaft.holdoff.isNone then
      deliver (.shock p p2) (s.setShaft { s.shaft with holdoff := some (at_ + Config.shockHoldoffUs) })
    else s

/-- The shaft speed of a period (R34). -/
def speedOfPeriod (teeth period : Nat) : Nat := min 16383 (60000000 / (period * teeth))

/-- A rising edge of A at a moment (R34, R35, R37): it ends a period of the chain, or begins a new chain. -/
def risingEdgeOfA (at_ : Nat) (s : State) : State :=
  let s := s.setShaft { s.shaft with timeout := some (at_ + Config.speedTimeoutUs) }
  match s.shaft.chain with
  | none => s.setShaft { s.shaft with chain := some at_ }
  | some t =>
    let p1 := s.shaft.period
    let s := s.setShaft { s.shaft with chain := some at_, period := some (at_ - t) }
    testShock p1 (at_ - t) at_ (setShaftSpeed (speedOfPeriod s.profile.teeth (at_ - t)) at_ s)

/-- An accepted edge of a line at the time of its change (R33 to R37); the detection of R36 comes before the
period of R34, and the shock test after it (R38). -/
def acceptedEdge (line : ShaftLine) (rising : Bool) (at_ : Nat) (s : State) : State :=
  let other := match line with
    | .a => s.shaft.b.accepted.getD false
    | .b => s.shaft.a.accepted.getD false
  let s := if isCounted s.profile.encodingCode line rising then
      countedEdge (edgeDirection s.profile.invert line rising other) at_ s
    else s
  if line = .a ∧ rising = true then risingEdgeOfA at_ s else s

/-- The acceptance of a pending candidate (R32). -/
def acceptCandidate (line : ShaftLine) (at_ : Nat) (s : State) : State :=
  let p := s.shaft.pin line
  acceptedEdge line p.high at_
    (s.setShaft (s.shaft.setPin { p with accepted := some p.high, candidate := none } line))

end Sys2Proof.Machine
end

