-- ==== Sys2Proof/Machine/InputCommands.lean ====
section
/-! DEFINITION. The commands of the input unit: LINE_CHANGE, LINE_QUALIFIED, SHAFT_EDGE_CANDIDATE,
SHAFT_EDGE_ACCEPTED, SPEED_TIMEOUT and SHOCK_HOLDOFF_EXPIRY (chapter 2). -/

namespace Sys2Proof.Machine

/-- A sense line takes an electrical level (R27). -/
def lineTakes (line : SenseLine) (high : Bool) (s : State) : State :=
  s.setInputs (s.inputs.setLine
    (lineMoved (lineSetting s.profile line) s.clock.now s.nowMs high (s.inputs.line line)) line)

/-- LINE_CHANGE (R27).  The level is the outside's: it changes in a part held in reset too. -/
def execLineChange (dt : Nat) (line : SenseLine) (high : Bool) (s : State) : StepResult :=
  if s.control.powered then event dt (lineTakes line high) s
  else .next (lineTakes line high (s.advance dt))

/-- The moment at which the measurement of a line ends. -/
def measurementEnd (x : LineState) : Timer := x.measuring.map Measurement.endsAt

/-- A line has held its new level for the debounce time (R27, R28). -/
def lineHeld (line : SenseLine) (s : State) : State :=
  match (s.inputs.line line).measuring with
  | some m => qualifyLine line m s
  | none => s

/-- LINE_QUALIFIED (R28). -/
def execLineQualified (line : SenseLine) (s : State) : StepResult :=
  expiry (measurementEnd (s.inputs.line line)) (lineHeld line) s

/-- A shaft line takes an electrical level (R32). -/
def shaftTakes (line : ShaftLine) (high : Bool) (s : State) : State :=
  s.setShaft (s.shaft.setPin (pinMoved s.clock.now high (s.shaft.pin line)) line)

/-- SHAFT_EDGE_CANDIDATE (R32). -/
def execShaftEdgeCandidate (dt : Nat) (line : ShaftLine) (high : Bool) (s : State) : StepResult :=
  if s.control.powered then event dt (shaftTakes line high) s
  else .next (shaftTakes line high (s.advance dt))

/-- The moment at which a pending edge candidate is accepted. -/
def filterEnd (p : ShaftPin) : Timer := p.candidate.map (· + Config.edgeFilterUs)

/-- A shaft line has kept its new level for 20 µs (R32, R33). -/
def edgeHeld (line : ShaftLine) (s : State) : State :=
  match (s.shaft.pin line).candidate with
  | some t => acceptCandidate line t s
  | none => s

/-- SHAFT_EDGE_ACCEPTED (R33). -/
def execShaftEdgeAccepted (line : ShaftLine) (s : State) : StepResult :=
  expiry (filterEnd (s.shaft.pin line)) (edgeHeld line) s

/-- The speed timeout occurs (R35), once per silence.  With expiries in the order of their moments it comes
before the acceptance of an edge whose change came less than 20 µs earlier; that edge then begins a new
chain. DESIGN CHOICE: log entry 51. -/
def shaftSilent (s : State) : State :=
  breakChain s.clock.now (s.setShaft { s.shaft with timeout := none })

/-- SPEED_TIMEOUT (R35). -/
def execSpeedTimeout (s : State) : StepResult := expiry s.shaft.timeout shaftSilent s

/-- The shock hold-off has run out (R37). -/
def holdoffOver (s : State) : State := s.setShaft { s.shaft with holdoff := none }

/-- SHOCK_HOLDOFF_EXPIRY (R37). -/
def execShockHoldoffExpiry (s : State) : StepResult := expiry s.shaft.holdoff holdoffOver s

end Sys2Proof.Machine
end

