-- ==== Sys2Proof/Machine/NoticeCommands.lean ====
section
/-! DEFINITION. The commands of the notice arbiter: PULSE_TIMER_EXPIRY, DWELL_EXPIRY and NOTICE_REPEAT_EXPIRY
(chapter 9). -/

namespace Sys2Proof.Machine

/-- A pulse timer has run out (R141): its condition is cleared. -/
def pulseOver (src : PulseSource) (s : State) : State :=
  clearCondition (pulseNumber src) (s.setNotices (setPulseTimer src none s.notices))

/-- PULSE_TIMER_EXPIRY (R141). -/
def execPulseTimerExpiry (src : PulseSource) (s : State) : StepResult :=
  expiry (pulseTimer s.notices src) (pulseOver src) s

/-- DWELL_EXPIRY (R145). -/
def execDwellExpiry (s : State) : StepResult := expiry s.notices.dwell endDwell s

/-- NOTICE_REPEAT_EXPIRY (R148). -/
def execNoticeRepeatExpiry (s : State) : StepResult := expiry s.notices.repeatTimer queueNotice s

end Sys2Proof.Machine
end

