-- ==== Sys2Proof/Machine/Starting.lean ====
section
/-! DEFINITION. STARTING (R183): the profile, recovery (R106, R110, R134 to R137), the blocks' start-up work (R78,
R91, R106) and the end of STARTING (R29, R30, R149). -/

namespace Sys2Proof.Machine

/-! ## Steps 1 to 3: the profile -/

/-- The board with the origin kinds of the profile in use (R14). -/
def boardFor (p : Profile) : Board :=
  { Board.reset with slots := Vector.ofFn fun i => Slot.reset p.origins[i] }

/-- The profile is read over the I2C line and the profile in use is taken (R184, R185); with the FALLBACK profile
the PROFILE FAULT condition is set. -/
def useProfile (m : MemoryAnswer) (s : State) : State :=
  let r := loadProfile m
  let s := (s.setProfile r.1).setBoard (boardFor r.1)
  let s := s.setControl { s.control with profileState := r.2.1, memoryLine := (readProfile m).line }
  if r.2.2.isSome then setCondition 8 s else s

/-! ## Step 4: recovery -/

/-- The valid checkpoints with their slots, in slot order. -/
def validCheckpoints (ring : Vector (Option Checkpoint) 32) : List (Fin 32 × Checkpoint) :=
  (List.finRange 32).filterMap fun i => (ring[i]).map fun x => (i, x)

/-- The checkpoint to restore (R135): the highest sequence number, the lowest slot where several share it. -/
def newestCheckpoint (ring : Vector (Option Checkpoint) 32) : Option (Fin 32 × Checkpoint) :=
  (validCheckpoints ring).foldl
    (fun best x => match best with
      | none => some x
      | some y => if y.2.seq < x.2.seq then some x else some y) none

/-- The highest sequence number of the journal table plus 1, 0 with no valid entry (R110). -/
def journalNext (t : Vector (Option Entry) 256) : Nat :=
  (validEntries t).foldl (fun n x => max n (x.2.seq + 1)) 0

/-- The next record write number (R136). -/
def writeNext (h : Vector (Option RetainedHire) 8) : Nat :=
  min ceiling ((validHistory h).foldl (fun n x => max n (x.2.writeNo + 1)) 0)

/-- Hire control as a checkpoint restores it (R106). -/
def restoredHire (x : Checkpoint) : HireControl :=
  { state := if x.hireState = .opened then .opened else .noHire
    serial := x.hireSerial
    header := if x.hireState = .opened then x.header else none
    buffer := x.closing, pendingMark := x.closing.isSome, deferred := none, ending := none }

/-- The counter table as a checkpoint restores it (R85, R86, R88). -/
def restoredTable (x : Checkpoint) : Table :=
  { life := x.life, marks := x.marks, due := Vector.replicate 5 false
    hire := if x.hireState = .opened then x.hire else Vector.replicate 47 0 }

/-- The result of recovery in the STARTUP entry (R134, R137): 0 CLEAN, 1 UNCLEAN, 2 BLANK. -/
def recoveryResult : Option CheckpointKind → Nat
  | none => 2
  | some .final | some .park | some .restart => 0
  | some .periodic | some .event => 1

/-- Part seconds are set, and part millisecond time to 1000 times that, counting from now (R135, R187). -/
def setPartSeconds (sec : Nat) (s : State) : State :=
  let s := s.setClock { s.clock with msBase := 1000 * sec, msBaseAt := s.clock.now }
  s.setControl { s.control with partSeconds := sec, secondsTimer := s.timerIn 1000000 }

/-- Restores the part from a checkpoint found at a slot (R135). -/
def restoreFrom (i : Fin 32) (x : Checkpoint) (s : State) : State :=
  let s := (s.setTable (restoredTable x)).setHire (restoredHire x)
  let s := s.setRemainders x.remainders
  let s := s.setJournal { s.journal with nextSeq := max (journalNext s.store.journal) x.nextSeq }
  let s := s.setStore { s.store with nextSlot := slotAfter i, nextSeq := min ceiling (x.seq + 1) }
  setPartSeconds x.partSeconds s

/-- The part with no checkpoint to restore (R135, BLANK). -/
def restoreBlank (s : State) : State :=
  let s := ((s.setTable .reset).setHire .reset).setRemainders .reset
  let s := s.setJournal { s.journal with nextSeq := journalNext s.store.journal }
  let s := s.setStore { s.store with nextSlot := 0, nextSeq := 0 }
  setPartSeconds 0 s

/-- The reason of recovery in the STARTUP entry: 0 POWER, 1 RESTART (R134). -/
def reasonCode : ResetReason → Nat
  | .power => 0
  | .restart => 1

/-- Recovery (R135 to R137), ending with the STARTUP entry. -/
def recover (s : State) : State :=
  let found := newestCheckpoint s.store.ring
  let s := match found with
    | some (i, x) => restoreFrom i x s
    | none => restoreBlank s
  let s := s.setStore { s.store with nextWriteNo := writeNext s.store.history }
  createEntry .startup none (reasonCode s.control.reason) (recoveryResult (found.map (·.2.kind))) s

/-! ## Steps 5 and 6 -/

/-- The PROFILE FAULT entry, after the STARTUP entry (R183). -/
def profileFaultEntry (m : MemoryAnswer) (s : State) : State :=
  match (loadProfile m).2.2 with
  | some cause => createEntry .profileFault none cause 0 s
  | none => s

/-- A shaft remainder within the range of the profile in force (R78). -/
def limitedRemainder (p : Profile) (r : Nat) : Nat :=
  if p.teeth = 0 ∨ edgesPerRevolution p ≤ r then 0 else r

/-- The shaft remainders brought within range (R78). -/
def limitRemainders (s : State) : State :=
  s.setRemainders { s.remainders with
    forward := limitedRemainder s.profile s.remainders.forward
    reverse := limitedRemainder s.profile s.remainders.reverse }

/-- The due state of one member computed at the end of STARTING, without an entry (R91). -/
def initDue (m : Fin 5) (s : State) : State :=
  let b := isDue s.profile.limits s.table m
  let s := setDue m b s
  if b then setCondition (dueSource m) s else s

/-- The due states of the five members (R91). -/
def initDues (s : State) : State := (List.finRange 5).foldl (fun s m => initDue m s) s

/-- Whether a valid history record is a record, by hire serial and closed part seconds (R106). -/
def inHistory (h : Vector (Option RetainedHire) 8) (r : HireRecord) : Bool :=
  (validHistory h).any fun x => x.2.record.serial == r.serial && x.2.record.closedSeconds == r.closedSeconds

/-- A restored pending record is found in the history, or its trigger is handed on (R106). -/
def resolvePending (s : State) : State :=
  match s.hire.pendingRecord with
  | some r => if inHistory s.store.history r then s.setHire (emptyBuffer s.hire) else hireRecordTrigger s
  | none => s

/-! ## Step 7: the end of STARTING -/

/-- A line sampled at the end of STARTING (R29). -/
def sampledLine (p : Profile) (line : SenseLine) (x : LineState) : LineState :=
  { x with
    qualified := if lineInUse p line then some (activeLevel (lineSetting p line) x.high) else none
    measuring := none }

/-- A shaft line sampled at the end of STARTING (R32). -/
def sampledPin (p : ShaftPin) : ShaftPin := { p with accepted := some p.high, candidate := none }

/-- The input unit at the end of STARTING (R29, R32, R35). -/
def sampledInputs (p : Profile) (timeout : Timer) (i : Inputs) : Inputs :=
  { ignition := sampledLine p .ignition i.ignition
    crank := sampledLine p .crank i.crank
    clutchPedal := sampledLine p .clutchPedal i.clutchPedal
    powerWarning := sampledLine p .powerWarning i.powerWarning
    shaft := if p.teeth = 0 then i.shaft
      else { i.shaft with a := sampledPin i.shaft.a, b := sampledPin i.shaft.b, timeout := timeout } }

/-- The initial report of a line to its slot (R30), which hands nothing on. -/
def initialLine (sig : Signal) (qualified : Option Bool) (active inactive : Int) (s : State) : State :=
  match qualified with
  | some b =>
    putSlot sig (slotInputReports .line (.num (if b then active else inactive)) s.nowMs (s.slot sig)) s
  | none => s

/-- The initial report of the shaft sensor (R39): vehicle speed 0 to the SHAFT origins. -/
def initialShaft (s : State) : State :=
  putSlot .vehicleSpeed (slotInputReports .shaft (.num 0) s.nowMs (s.slot .vehicleSpeed)) s

/-- The initial reports, with the values last handed following them (R30). -/
def initialReports (s : State) : State :=
  let s := initialLine .ignition s.inputs.ignition.qualified 1 0 s
  let s := initialLine .crank s.inputs.crank.qualified 1 0 s
  let s := initialLine .clutchEngagement s.inputs.clutchPedal.qualified 0 100 s
  let s := initialShaft s
  s.setBoard { s.board with
    handedIgnition := s.ignitionOn
    handedCrank := countsAsOne (s.effective .crank)
    handedGear := s.effectiveNum .gear
    handedClutch := s.effectiveNum .clutchEngagement }

/-- An active CRANK at the end of STARTING is a crank begin (R30). -/
def initialCrank (s : State) : State :=
  if s.board.handedCrank then deliver (.crankBegin s.nowMs) s else s

/-- The store leaves RECOVERING (R137). -/
def storeNormal (s : State) : State :=
  grantPort (s.setStore { s.store with state := .normal, failedJobs := 0, finalAttempted := false })

/-- The first choice of the notice arbiter (R149): a NOTICE frame is queued in either case. -/
def firstChoice (s : State) : State := queueNotice (updateLamp (present s))

/-- Step 7 (R183). -/
def endStarting (s : State) : State :=
  let s := s.setInputs (sampledInputs s.profile (s.timerIn Config.speedTimeoutUs) s.inputs)
  let s := initialReports s
  let s := s.setControl { s.control with mode := s.modeByIgnition }
  firstChoice (startAwake (storeNormal (initialCrank s)))

/-- The end of STARTING (R183): the seven steps, for a part that is in STARTING.  An attempt that a DEPOT
RESTART let complete has ended by then (R162, log entry 34). DESIGN CHOICE: log entry 21. -/
def finishStarting (m : MemoryAnswer) (s : State) : State :=
  if s.control.mode = .starting then
    let s := profileFaultEntry m (recover (useProfile m (s.setLink .reset)))
    endStarting (resolvePending (initDues (limitRemainders s)))
  else s

end Sys2Proof.Machine
end

