-- ==== Sys2Proof/Machine/PowerCommands.lean ====
section
/-! DEFINITION. The commands of the mode controller: START_UP, STARTING_END, WAKE_BY_BUS, PARK_TIMER_EXPIRY,
PART_SECONDS_TICK, RESTART_WAIT_TIMEOUT and SUPPLY_LOSS (chapter 12). -/

namespace Sys2Proof.Machine

/-- START_UP (R183, R186): power is applied, or the supply has fallen and risen again. -/
def execStartUp (dt : Nat) (s : State) : StepResult :=
  .next (countFree (resetWorking .power (s.advance dt)))

/-- STARTING_END (R183). -/
def execStartingEnd (dt : Nat) (mem : MemoryAnswer) (s : State) : StepResult :=
  event dt (finishStarting mem) s

/-- The wake by bus activity (R182); the frame that carries it is lost. -/
def wakeByBus (s : State) : State := if s.control.mode = .parked then wake s else s

/-- WAKE_BY_BUS (R182). -/
def execWakeByBus (dt : Nat) (s : State) : StepResult := event dt wakeByBus s

/-- The park timer has run out (R180): the PARK trigger is handed on and the mark set; a FAULTED store
reports it as not written at once. -/
def parkDue (s : State) : State :=
  let s := s.setControl { s.control with parkTimer := none, parkPending := true }
  if s.store.state = .faulted then reportOutcome true false s else parkTrigger s

/-- PARK_TIMER_EXPIRY (R180). -/
def execParkTimerExpiry (s : State) : StepResult := expiry s.control.parkTimer parkDue s

/-- 1000 ms of part millisecond time have passed (R187). -/
def secondPassed (s : State) : State :=
  s.setControl { s.control with
    partSeconds := capAdd ceiling s.control.partSeconds 1
    secondsTimer := s.control.secondsTimer.map (· + 1000000) }

/-- PART_SECONDS_TICK (R187). -/
def execPartSecondsTick (s : State) : StepResult := expiry s.control.secondsTimer secondPassed s

/-- What the mode controller waits for after a RESTART: its time-out. -/
def restartTimer (s : State) : Timer :=
  match s.control.restart with
  | some w => w.timer
  | none => none

/-- The wait for the RESTART answer ends (R186). -/
def answerOver (s : State) : State :=
  s.setControl { s.control with
    restart := s.control.restart.map fun w => { w with answered := true, timer := none } }

/-- RESTART_WAIT_TIMEOUT (R186). -/
def execRestartWaitTimeout (s : State) : StepResult := expiry (restartTimer s) answerOver s

/-- SUPPLY_LOSS (R186): working memory is lost, and the part is held in reset. -/
def execSupplyLoss (dt : Nat) (s : State) : StepResult :=
  .next (countFree (holdInReset (s.advance dt)))

end Sys2Proof.Machine
end

