-- ==== Sys2Proof/Machine/RequestCommands.lean ====
section
/-! DEFINITION. The commands of the request server: the requests at the head of the request list, HOLD_EXPIRY and
PAGE_TIMER_EXPIRY (chapters 6 and 11). -/

namespace Sys2Proof.Machine

/-- STATUS (R166). -/
def execStatus (dt : Nat) (s : State) : StepResult := event dt (serveRow .status) s

/-- READ_COUNTER (R167). -/
def execReadCounter (dt : Nat) (s : State) : StepResult := event dt (serveRow .readCounter) s

/-- READ_SOURCE (R168). -/
def execReadSource (dt : Nat) (s : State) : StepResult := event dt (serveRow .readSource) s

/-- READ_JOURNAL (R170). -/
def execReadJournal (dt : Nat) (s : State) : StepResult := event dt (serveRow .readJournal) s

/-- READ_HIRE (R171). -/
def execReadHire (dt : Nat) (s : State) : StepResult := event dt (serveRow .readHire) s

/-- SERVICE_DONE (R92). -/
def execServiceDone (dt : Nat) (s : State) : StepResult := event dt (serveRow .serviceDone) s

/-- ABORT_STREAM (R173). -/
def execAbortStream (dt : Nat) (s : State) : StepResult := event dt (serveRow .abortStream) s

/-- RESTART (R186). -/
def execRestart (dt : Nat) (s : State) : StepResult := event dt (serveRow .restart) s

/-- UNKNOWN_REQUEST (R164). -/
def execUnknownRequest (dt : Nat) (s : State) : StepResult := event dt (serveRow .unknown) s

/-- CHECK_OUT (R96). -/
def execCheckOut (dt : Nat) (s : State) : StepResult := event dt (serveRow .checkOut) s

/-- CHECK_IN (R98). -/
def execCheckIn (dt : Nat) (s : State) : StepResult := event dt (serveRow .checkIn) s

/-- HIRE_CONTROL_UNKNOWN (R164). -/
def execHireControlUnknown (dt : Nat) (s : State) : StepResult := event dt (serveRow .hireUnknown) s

/-- HOLD (R176). -/
def execHold (dt : Nat) (s : State) : StepResult := event dt (serveRow .hold) s

/-- The HOLD timer has run out (R176); the STREAM queue is tested again. -/
def holdTimerOver (s : State) : State := s.setServer { s.server with holdTimer := none }

/-- HOLD_EXPIRY (R176). -/
def execHoldExpiry (s : State) : StepResult := expiry s.server.holdTimer holdTimerOver s

/-- SUMMARY_PAGE_REQUEST (R178). -/
def execSummaryPageRequest (dt : Nat) (s : State) : StepResult := event dt (serveRow .page) s

/-- The page timer has run out (R177): the page is built in one step between passes. -/
def pageTimerOver (s : State) : State := dueStep .page (s.setServer { s.server with pageTimer := none })

/-- PAGE_TIMER_EXPIRY (R177). -/
def execPageTimerExpiry (s : State) : StepResult := expiry s.server.pageTimer pageTimerOver s

/-- SHORT_FRAME_DISCARD (R164). -/
def execShortFrameDiscard (dt : Nat) (s : State) : StepResult := event dt (serveRow .short) s

end Sys2Proof.Machine
end

