-- ==== Sys2Proof/Machine/SignalCommands.lean ====
section
/-! DEFINITION. The commands of the decode unit and the signal board: DECODE_COMPLETE, FRESHNESS_EXPIRY and
SLOT_HOLD_EXPIRY (chapter 1). -/

namespace Sys2Proof.Machine

/-- A decode completes (R9, R43): its slot is freed and the unit is granted. -/
def completeDecode (s : State) : State :=
  if s.arbiter.unit = .decode then
    grantUnit (s.setIntake { s.intake with slots := s.intake.slots.drop 1 })
  else s

/-- DECODE_COMPLETE (R43). -/
def execDecodeComplete (dt : Nat) (s : State) : StepResult := event dt completeDecode s

/-- FRESHNESS_EXPIRY (R17): the freshness timer of an origin runs out. -/
def execFreshnessExpiry (sig : Signal) (rank : Rank) (s : State) : StepResult :=
  expiry ((s.slot sig).origin rank).timer (expireOrigin sig rank) s

/-- The hold timer of a slot runs out (R19 to R21). -/
def holdOver (sig : Signal) (s : State) : State := changeSlot sig s.nowMs (slotLost (s.slot sig)) s

/-- SLOT_HOLD_EXPIRY (R20). -/
def execSlotHoldExpiry (sig : Signal) (s : State) : StepResult :=
  expiry (s.slot sig).holdTimer (holdOver sig) s

end Sys2Proof.Machine
end

