-- ==== Sys2Proof/Machine/StoreCommands.lean ====
section
/-! DEFINITION. The commands of the retained store: CHECKPOINT_SNAPSHOT, CHECKPOINT_WRITE_DONE,
HIRE_RECORD_WRITE_DONE, JOURNAL_ENTRY_WRITE_DONE and STREAM_ITEM_READ (chapter 8). -/

namespace Sys2Proof.Machine

/-- Whether the snapshot step is being taken or waits already. -/
def snapshotAsked (a : Arbiter) : Bool := a.unit == .step .snapshot || a.steps.contains .snapshot

/-- The snapshot of a checkpoint job that holds the port falls due (R44, R129). -/
def snapshotDue (s : State) : State :=
  match s.store.port with
  | .snapshot _ => if snapshotAsked s.arbiter then s else dueStep .snapshot s
  | _ => s

/-- CHECKPOINT_SNAPSHOT (R129). -/
def execCheckpointSnapshot (dt : Nat) (s : State) : StepResult := event dt snapshotDue s

/-- A checkpoint write and its verification end, where one holds the port. -/
def checkpointOver (verified : Bool) (s : State) : State :=
  match s.store.port with
  | .checkpoint job image => endCheckpoint job image verified s
  | _ => s

/-- CHECKPOINT_WRITE_DONE (R129). -/
def execCheckpointWriteDone (dt : Nat) (verified : Bool) (s : State) : StepResult :=
  event dt (checkpointOver verified) s

/-- A hire record write ends, where one holds the port. -/
def hireRecordOver (verified : Bool) (s : State) : State :=
  match s.store.port with
  | .hireRecord slot item => endHireRecord slot item verified s
  | _ => s

/-- HIRE_RECORD_WRITE_DONE (R101, R102). -/
def execHireRecordWriteDone (dt : Nat) (verified : Bool) (s : State) : StepResult :=
  event dt (hireRecordOver verified) s

/-- A journal entry write ends, where one holds the port. -/
def journalEntryOver (verified : Bool) (s : State) : State :=
  match s.store.port with
  | .journalEntry slot e => endJournalEntry slot e verified s
  | _ => s

/-- JOURNAL_ENTRY_WRITE_DONE (R115, R117). -/
def execJournalEntryWriteDone (dt : Nat) (verified : Bool) (s : State) : StepResult :=
  event dt (journalEntryOver verified) s

/-- A stream item read ends, where one holds the port: the stream takes the item, then the port is free
for others (R126, R127). -/
def itemOver (verified : Bool) (s : State) : State :=
  match s.store.port with
  | .journalRead slot wanted =>
    grantPort (journalItemRead slot wanted verified (s.setStore { s.store with port := .free }))
  | .hireRead slot wanted =>
    grantPort (hireItemRead slot wanted verified (s.setStore { s.store with port := .free }))
  | _ => s

/-- STREAM_ITEM_READ (R127, R175). -/
def execStreamItemRead (dt : Nat) (verified : Bool) (s : State) : StepResult :=
  event dt (itemOver verified) s

end Sys2Proof.Machine
end

