-- ==== Sys2Proof/Machine/TallyCommands.lean ====
section
/-! DEFINITION. The commands of the tally engine: TALLY_TICK, PASS_COMPLETE, STEP_COMPLETE and LONG_CRANK_EXPIRY
(chapter 3). -/

namespace Sys2Proof.Machine

/-- The tick timer has run out (R42, R43): it is loaded again from the moment it ran out. -/
def tickOver (s : State) : State :=
  dueTick (s.setArbiter { s.arbiter with tickTimer := s.arbiter.tickTimer.map (· + Config.tallyIntervalUs) })

/-- TALLY_TICK (R42). -/
def execTallyTick (s : State) : StepResult := expiry s.arbiter.tickTimer tickOver s

/-- A pass completes, where one is running. -/
def passOver (s : State) : State := if s.arbiter.unit = .pass then completePass s else s

/-- PASS_COMPLETE (R45). -/
def execPassComplete (dt : Nat) (s : State) : StepResult := event dt passOver s

/-- A whole step ends, where one is being taken (R43); that of a request places its answer (R164). -/
def stepOver (s : State) : State :=
  match s.arbiter.unit with
  | .step .request => grantUnit (endRequest s.server.built s)
  | .step .page | .step .snapshot => grantUnit s
  | .free | .decode | .pass => s

/-- STEP_COMPLETE (R43). -/
def execStepComplete (dt : Nat) (s : State) : StepResult := event dt stepOver s

/-- The long-crank timer has run out (R58, R45). -/
def longCrankOver (s : State) : State :=
  deliver (.longCrank s.start.begunMs) (s.setStart { s.start with longTimer := none })

/-- LONG_CRANK_EXPIRY (R58). -/
def execLongCrankExpiry (s : State) : StepResult := expiry s.start.longTimer longCrankOver s

end Sys2Proof.Machine
end

