-- ==== Sys2Proof/Machine/Dispatch.lean ====
section
/-! DEFINITION. The dispatch: one arm per command, each one direct call of its meaning. -/

namespace Sys2Proof.Machine

def exec (i : Instr) (s : State) : Host.Outcome State Fault Refusal :=
  match i with
  | .startUp dt => Sys2Proof.Machine.execStartUp dt s
  | .startingEnd dt mem => Sys2Proof.Machine.execStartingEnd dt mem s
  | .busJoin dt => Sys2Proof.Machine.execBusJoin dt s
  | .frameReceived dt f => Sys2Proof.Machine.execFrameReceived dt f s
  | .receiveError dt dominantAfterFlag => Sys2Proof.Machine.execReceiveError dt dominantAfterFlag s
  | .decodeComplete dt => Sys2Proof.Machine.execDecodeComplete dt s
  | .freshnessExpiry sig rank => Sys2Proof.Machine.execFreshnessExpiry sig rank s
  | .slotHoldExpiry sig => Sys2Proof.Machine.execSlotHoldExpiry sig s
  | .lineChange dt line high => Sys2Proof.Machine.execLineChange dt line high s
  | .lineQualified line => Sys2Proof.Machine.execLineQualified line s
  | .shaftEdgeCandidate dt line high => Sys2Proof.Machine.execShaftEdgeCandidate dt line high s
  | .shaftEdgeAccepted line => Sys2Proof.Machine.execShaftEdgeAccepted line s
  | .speedTimeout => Sys2Proof.Machine.execSpeedTimeout s
  | .shockHoldoffExpiry => Sys2Proof.Machine.execShockHoldoffExpiry s
  | .tallyTick => Sys2Proof.Machine.execTallyTick s
  | .passComplete dt => Sys2Proof.Machine.execPassComplete dt s
  | .stepComplete dt => Sys2Proof.Machine.execStepComplete dt s
  | .longCrankExpiry => Sys2Proof.Machine.execLongCrankExpiry s
  | .wakeByBus dt => Sys2Proof.Machine.execWakeByBus dt s
  | .parkTimerExpiry => Sys2Proof.Machine.execParkTimerExpiry s
  | .partSecondsTick => Sys2Proof.Machine.execPartSecondsTick s
  | .checkpointSnapshot dt => Sys2Proof.Machine.execCheckpointSnapshot dt s
  | .checkpointWriteDone dt verified => Sys2Proof.Machine.execCheckpointWriteDone dt verified s
  | .hireRecordWriteDone dt verified => Sys2Proof.Machine.execHireRecordWriteDone dt verified s
  | .journalEntryWriteDone dt verified => Sys2Proof.Machine.execJournalEntryWriteDone dt verified s
  | .streamItemRead dt verified => Sys2Proof.Machine.execStreamItemRead dt verified s
  | .status dt => Sys2Proof.Machine.execStatus dt s
  | .readCounter dt => Sys2Proof.Machine.execReadCounter dt s
  | .readSource dt => Sys2Proof.Machine.execReadSource dt s
  | .readJournal dt => Sys2Proof.Machine.execReadJournal dt s
  | .readHire dt => Sys2Proof.Machine.execReadHire dt s
  | .serviceDone dt => Sys2Proof.Machine.execServiceDone dt s
  | .abortStream dt => Sys2Proof.Machine.execAbortStream dt s
  | .restart dt => Sys2Proof.Machine.execRestart dt s
  | .unknownRequest dt => Sys2Proof.Machine.execUnknownRequest dt s
  | .checkOut dt => Sys2Proof.Machine.execCheckOut dt s
  | .checkIn dt => Sys2Proof.Machine.execCheckIn dt s
  | .hireControlUnknown dt => Sys2Proof.Machine.execHireControlUnknown dt s
  | .hold dt => Sys2Proof.Machine.execHold dt s
  | .holdExpiry => Sys2Proof.Machine.execHoldExpiry s
  | .summaryPageRequest dt => Sys2Proof.Machine.execSummaryPageRequest dt s
  | .pageTimerExpiry => Sys2Proof.Machine.execPageTimerExpiry s
  | .streamGapExpiry => Sys2Proof.Machine.execStreamGapExpiry s
  | .transmitSuccess dt => Sys2Proof.Machine.execTransmitSuccess dt s
  | .lostArbitration dt => Sys2Proof.Machine.execLostArbitration dt s
  | .transmitError dt onlyMissingAck => Sys2Proof.Machine.execTransmitError dt onlyMissingAck s
  | .busOffRecovery dt => Sys2Proof.Machine.execBusOffRecovery dt s
  | .pulseTimerExpiry src => Sys2Proof.Machine.execPulseTimerExpiry src s
  | .dwellExpiry => Sys2Proof.Machine.execDwellExpiry s
  | .noticeRepeatExpiry => Sys2Proof.Machine.execNoticeRepeatExpiry s
  | .restartWaitTimeout => Sys2Proof.Machine.execRestartWaitTimeout s
  | .supplyLoss dt => Sys2Proof.Machine.execSupplyLoss dt s
  | .recoveryCountRun dt => Sys2Proof.Machine.execRecoveryCountRun dt s
  | .shortFrameDiscard dt => Sys2Proof.Machine.execShortFrameDiscard dt s

end Sys2Proof.Machine
end

