-- ==== Sys2Proof/Safety.lean ====
section
/-! DEFINITION. What claims are made of: what an event's aftermath keeps, and the laws of the device that
every step keeps. -/

namespace Sys2Proof.Machine

/-! ## What the aftermath of an event keeps -/

/-- The mode controller's state without the park timer and its mark. -/
def Control.withoutPark (c : Control) : Control := { c with parkTimer := none, parkPending := false }

/-- Hire control's state without the open hire header. -/
def HireControl.withoutHeader (h : HireControl) : HireControl := { h with header := none }

/-- The link unit without its queues and the frame in the transmitter: the error account, the pacing
counter and the part's place on the bus. -/
def Link.account (l : Link) : Link :=
  { l with answers := [], notice := none, summary := none, stream := none, transmitter := none }

/-- The request server without the held answers. -/
def Server.withoutHeld (r : Server) : Server := { r with held := [] }

/-- A header as it is, or with its journal drop flag set. -/
def headerKept (u t : Option HireHeader) : Prop :=
  t = u ∨ t = u.map fun h => { h with journalDrop := true }

/-- What the queues, the array port and the running stream may do by themselves leaves `u` as it is here.
Open to them are: the outgoing queues and the transmitter, the held answers, the running stream, the
array port with the jobs it grants (a granted job's victim slot becomes invalid), the park timer, and
an entry dropped at its write with its count (counter 46) and flag. -/
structure Kept (u t : State) : Prop where
  clock      : t.clock = u.clock
  profile    : t.profile = u.profile
  board      : t.board = u.board
  intake     : t.intake = u.intake
  inputs     : t.inputs = u.inputs
  arbiter    : t.arbiter = u.arbiter
  start      : t.start = u.start
  trackers   : t.trackers = u.trackers
  remainders : t.remainders = u.remainders
  notices    : t.notices = u.notices
  free       : t.free = u.free
  pending    : t.pending = u.pending
  control    : t.control.withoutPark = u.control.withoutPark
  marks      : t.table.marks = u.table.marks
  due        : t.table.due = u.table.due
  counts     : ∀ n : Fin 47, n ≠ 46 →
    t.table.life[n] = u.table.life[n] ∧ t.table.hire[n] = u.table.hire[n]
  hire       : t.hire.withoutHeader = u.hire.withoutHeader
  header     : headerKept u.hire.header t.hire.header
  nextSeq    : t.journal.nextSeq = u.journal.nextSeq
  staging    : t.journal.staging.Sublist u.journal.staging
  storeState : t.store.state = u.store.state
  failures   : t.store.failureCount = u.store.failureCount
  attempted  : t.store.finalAttempted = u.store.finalAttempted
  ring       : t.store.ring = u.store.ring
  nextSlot   : t.store.nextSlot = u.store.nextSlot
  nextCheck  : t.store.nextSeq = u.store.nextSeq
  entries    : ∀ i : Fin 256, t.store.journal[i] = u.store.journal[i] ∨ t.store.journal[i] = none
  records    : ∀ i : Fin 8, t.store.history[i] = u.store.history[i] ∨ t.store.history[i] = none
  account    : t.link.account = u.link.account
  server     : t.server.withoutHeld = u.server.withoutHeld
  lost       : t.stream.lost = u.stream.lost

/-- The state that an event leaves: `u` holds the event's own effect, `t` what the part makes of it by the
queues, the array port and the stream, with one free value used up. -/
def Left (u t : State) : Prop := Kept (u.setFree (u.free + 1)) t

/-- A part that takes events: it is powered, and no DEPOT RESTART has been asked for. -/
def State.attentive (s : State) : Prop := s.control.powered = true ∧ s.control.restart = none

/-! ## What claims say of frames, entries, triggers and requests -/

/-- Whether a frame is an answer. -/
def isAnswer : FrameKind → Bool
  | .answer | .restartAnswer => true
  | .notice | .summary | .stream _ _ => false

/-- The frame in the transmitter where it passes a test. -/
def transmitted (p : FrameKind → Bool) (l : Link) : List OutFrame :=
  match l.transmitter with
  | some x => if p x.frame.kind then [x.frame] else []
  | none => []

/-- The answers under way: one in the transmitter, then those in the ANSWER queue (R158, R159). -/
def answersOut (l : Link) : List OutFrame := transmitted isAnswer l ++ l.answers

/-- The answers `fs` stand behind those that were under way (R164). -/
def Placed (fs : List OutFrame) (s t : State) : Prop := answersOut s.link ++ fs <+: answersOut t.link

/-- An answer is under way or held for a free place (R165). -/
def Owed (f : OutFrame) (t : State) : Prop := f ∈ answersOut t.link ++ t.server.held

/-- A NOTICE frame waits, or is in the transmitter already (R148, R158). -/
def NoticeOffered (f : OutFrame) (t : State) : Prop :=
  t.link.notice = some f ∨ t.link.transmitter = some { frame := f, attempts := 0 }

/-- A SUMMARY page waits, or is in the transmitter already (R158, R177). -/
def PageOffered (f : OutFrame) (t : State) : Prop :=
  t.link.summary = some f ∨ t.link.transmitter = some { frame := f, attempts := 0 }

/-- Whether a frame is a STREAM frame. -/
def isStream : FrameKind → Bool
  | .stream _ _ => true
  | .answer | .restartAnswer | .notice | .summary => false

/-- The STREAM frames that are not sent yet: in the transmitter, in the STREAM queue, not yet handed (R172). -/
def streamFrames (s : State) : List OutFrame :=
  transmitted isStream s.link ++ s.link.stream.toList
    ++ (match s.stream.running with
        | some r => r.waiting
        | none => [])

/-- The entries of the JOURNAL job in progress that are not yet begun (R115). -/
def Store.jobList (st : Store) : List Entry :=
  match st.journalJob with
  | some j => j.list
  | none => []

/-- R116 finds a slot for an entry: a slot is free; or, with the hire state after the step, a settled or less
severe entry is there to be replaced, where the entries that wait are numbered below the next sequence
number. -/
def SlotFound (e : Entry) (s t : State) : Prop :=
  (∃ i : Fin 256, s.store.journal[i] = none)
    ∨ (chooseSlot t.hire s.store.journal e ≠ none
        ∧ ∀ x ∈ s.journal.staging ++ s.store.jobList, x.seq < s.journal.nextSeq)

/-- The entry `e` has been created in the step from `s` to `t` (R110, R111): it has taken the next sequence
number, and where the staging list had a place, and R116 finds a slot, it is staged.  (With the
sequence numbers used up, with no place, or with every slot taken by unsettled entries of no lower
severity, R112 and R116 drop it.) -/
def Created (e : Entry) (s t : State) : Prop :=
  s.journal.nextSeq < ceiling →
    e.seq = s.journal.nextSeq ∧ t.journal.nextSeq = s.journal.nextSeq + 1
      ∧ (s.journal.staging.length < 8 → SlotFound e s t → e ∈ t.journal.staging)

/-- The checkpoint job that holds the port. -/
def Port.job : Port → Option PortJob
  | .snapshot j | .checkpoint j _ => some j
  | .free | .hireRecord _ _ | .journalEntry _ _ | .journalRead _ _ | .hireRead _ _ => none

/-- The hire record being written through the port. -/
def Port.record : Port → Option HireRecord
  | .hireRecord _ x => some x.record
  | .free | .snapshot _ | .checkpoint _ _ | .journalEntry _ _ | .journalRead _ _ | .hireRead _ _ => none

/-- A checkpoint job, waiting or in progress, that a PARK trigger has asked for (R124, R132). -/
def parkCarried (st : Store) : Bool := (awaited st).1 || st.port.job.any (·.forPark)

/-- A checkpoint job, waiting or in progress, that a RESTART trigger has asked for (R124, R132). -/
def restartCarried (st : Store) : Bool := (awaited st).2 || st.port.job.any (·.forRestart)

/-- A checkpoint job that waits, or stands before its snapshot (R124, R129). -/
def checkpointAsked (st : Store) : Bool :=
  st.waitCheckpoint.isSome || (match st.port with | .snapshot _ => true | _ => false)

/-- The checkpoint that recovery restores (R135): the highest sequence number, and of several the one in the
lowest slot. -/
def Newest (ring : Vector (Option Checkpoint) 32) (i : Fin 32) (x : Checkpoint) : Prop :=
  ring[i] = some x
    ∧ ∀ (j : Fin 32) (y : Checkpoint), ring[j] = some y → y.seq < x.seq ∨ (y.seq = x.seq ∧ i ≤ j)

/-- The choice of R143: the eligible source of the highest level, of equal ones the higher number; none
without an eligible source. -/
def Chosen (p : Profile) (cond : Vector Bool 14) : Option (Fin 14) → Prop
  | none => ∀ m : Fin 14, eligible p cond m = false
  | some n =>
    eligible p cond n = true
      ∧ ∀ m : Fin 14, eligible p cond m = true →
          levelOf p m < levelOf p n ∨ (levelOf p m = levelOf p n ∧ m ≤ n)

/-- Every queue of the link unit, the answers built and held, and the running stream hold frames of their
own kind (R158, R164, R165, R172). -/
def State.queuesSorted (s : State) : Prop :=
  (∀ f ∈ s.link.answers ++ s.server.held ++ s.server.built, isAnswer f.kind = true)
    ∧ (∀ f, s.link.notice = some f → f.kind = .notice)
    ∧ (∀ f, s.link.summary = some f → f.kind = .summary)
    ∧ (∀ f, s.link.stream = some f → isStream f.kind = true)
    ∧ (∀ r, s.stream.running = some r → ∀ f ∈ r.waiting, isStream f.kind = true)

/-- The running stream, if there is one, is not finished by the frame now in the transmitter (R172): more
items, a frame not yet handed, or a frame in the STREAM queue. -/
def State.streamGoesOn (s : State) : Prop :=
  ∀ r, s.stream.running = some r → r.noMore = false ∨ r.waiting ≠ [] ∨ s.link.stream ≠ none

/-- An attentive part whose request list has `r` at its head, of the named row, and whose request server
may take it up (R164). -/
def Serves (row : Asked) (r : Request) (rest : List Request) (s : State) : Prop :=
  s.attentive ∧ s.queuesSorted ∧ s.server.requests = r :: rest ∧ asked r = row ∧ s.serverReady = true

/-- The state `dt` later in which the request at the head of the list is a step that holds the arithmetic unit,
with the answer that the end of that step will place (R44, R164). -/
def State.inStep (s : State) (dt : Nat) (fs : List OutFrame) : State :=
  ((s.advance dt).setArbiter { s.arbiter with unit := .step .request }).setServer
    { s.server with built := fs }

/-- The state `dt` later with the head of the request list gone (R163, R164). -/
def State.served (s : State) (dt : Nat) (rest : List Request) : State :=
  (s.advance dt).setServer { s.server with requests := rest, built := [] }

/-- The state after an answer without other effect: the head of the request list is gone, and its frames
are placed. -/
def AnsweredAlone (fs : List OutFrame) (dt : Nat) (rest : List Request) (s t : State) : Prop :=
  Left (s.served dt rest) t ∧ Placed fs s t

/-- The state `dt` later in which the link unit has taken a frame (R151, R152): REC has fallen, the part has
acknowledged. -/
def State.heard (s : State) (dt : Nat) : State :=
  (s.advance dt).setLink (confine { s.link with recCount := s.link.recCount - 1, drive := .acknowledge })

/-- The park timer runs only while its conditions hold (R180). -/
def ParkLaw (s : State) : Prop := s.control.parkTimer ≠ none → s.mayPark = true

/-- The SIGNAL LOST condition is pending only while a tally-relevant slot is LOST (R21). -/
def LostLaw (s : State) : Prop :=
  s.notices.conditions[(6 : Fin 14)] = true →
    ∃ sig : Signal, Machine.Signal.tallyRelevant sig = true ∧ (s.slot sig).state = .lost

/-! ## What claims say of decodes, passes and watchers -/

/-- The bytes that a field of a type takes (R10): U8, S8, U16, S16, U32, and one for a BIT. -/
def fieldBytesOf (fieldType : Nat) : Nat :=
  if fieldType = 4 then 4 else if fieldType = 2 ∨ fieldType = 3 then 2 else 1

/-- The number that a field holds before any sign interpretation (R10): a bit, or its bytes, of which the one at
the start byte is the least significant with byte order LITTLE and the most significant with BIG. -/
def rawOf (e : SourceEntry) (data : List Byte) : Nat :=
  if e.fieldType = 5 then (if bitOf (byteAt data e.startByte) e.bitNumber then 1 else 0)
  else ((List.range (fieldBytesOf e.fieldType)).map fun k =>
    byteAt data (e.startByte + if e.bigEndian then fieldBytesOf e.fieldType - 1 - k else k) * 256 ^ k).sum

/-- A raw field is the not-available pattern of its type (R11); a BIT has none. -/
def isNotAvailable (fieldType raw : Nat) : Bool :=
  ([(0, 0xFF), (1, 0x80), (2, 0xFFFF), (3, 0x8000), (4, 0xFFFFFFFF)] : List (Nat × Nat)).contains (fieldType, raw)

/-- The scaled value of a raw field (R12): signed for S8 and S16, the product divided by the power of two and
rounded down, the offset added. -/
def scaledOf (e : SourceEntry) (raw : Nat) : Int :=
  (if e.fieldType = 1 ∧ 0x80 ≤ raw then (raw : Int) - 0x100
    else if e.fieldType = 3 ∧ 0x8000 ≤ raw then (raw : Int) - 0x10000 else raw)
    * e.multiplier / 2 ^ e.shift + e.offset

/-- What a scaled value counts as for a signal, and whether it is CLAMPED (R12). -/
def takenAs (sig : Signal) (v : Int) : Value × Bool :=
  if sig = .gear then (if -1 ≤ v ∧ v ≤ 12 then (.num v, false) else (.unknown, true))
  else if sig = .crank ∨ sig = .ignition ∨ sig = .gridSelect then (.num (if v = 0 then 0 else 1), false)
  else (.num (max (rangeOf sig).1 (min (rangeOf sig).2 v)),
    decide (v < (rangeOf sig).1 ∨ (rangeOf sig).2 < v))

/-- A bus report of a value, received now with a staleness limit of `limitMs`, reaches a BUS origin of a slot
(R15, R19): the origin is FRESH, and the slot believes a primary one always, an alternate one unless it
is FRESH-PRIMARY. -/
def ReportTaken (now nowMs limitMs : Nat) (rank : Rank) (v : Value) (a b : Slot) : Prop :=
  b.origin rank = { a.origin rank with
      value := some v, ageBase := nowMs, fresh := true, timer := some (now + 1000 * limitMs) }
    ∧ (∀ k, k ≠ rank → b.origin k = a.origin k)
    ∧ (if rank = .alternate ∧ a.state = .freshPrimary then
        b.state = a.state ∧ b.effective = a.effective ∧ b.holdTimer = a.holdTimer
       else b.state = (if rank = .primary then .freshPrimary else .freshAlternate)
        ∧ b.effective = some v ∧ b.holdTimer = none)

/-- An entry of a kind has been noted in a step from `s` to `t` that creates at most `earlier` entries before
it: with sequence numbers, staging places and a free slot of the table left for them, it is staged
(R110, R111, R116). -/
def Noted (earlier : Nat) (kind : EntryKind) (member : Option Nat) (v1 v2 : Nat) (s t : State) : Prop :=
  s.journal.nextSeq + earlier < ceiling → s.journal.staging.length + earlier < 8 →
  (∃ i : Fin 256, s.store.journal[i] = none) →
  ∃ e ∈ t.journal.staging, e.kind = kind ∧ e.member = member ∧ e.value1 = min 65535 v1
    ∧ e.value2 = min 65535 v2 ∧ e.partSeconds = s.control.partSeconds ∧ e.hire = s.hireTag

/-- A counter has risen by an amount, 0 for none, in the scopes that an increment reaches (R82 to R84): the
lifetime counter up to the ceiling; with a hire OPEN the hire-scope counter too, up to the ceiling and
the lifetime value, and never down; with none OPEN the hire scope stays. -/
def Rose (n : Fin 47) (amount : Nat) (s t : State) : Prop :=
  t.table.life[n] = capAdd ceiling s.table.life[n] amount
    ∧ t.table.hire[n] = (if s.hire.state = .opened then
        max s.table.hire[n] (min (capAdd ceiling s.table.hire[n] amount) t.table.life[n])
      else s.table.hire[n])

/-- The numbers of the start group (R56). -/
def startGroup : List (Fin 47) := [0, 1, 2, 3, 4]

/-- What the closing of an attempt adds to a counter of the start group (R56): `outcome` is 1 SUCCESSFUL,
2 FAILED or 3 UNCONFIRMED. -/
def groupShare (outcome : Fin 47) (cold : Bool) (k : Fin 47) : Nat :=
  if k = 0 ∨ k = outcome ∨ (k = 4 ∧ cold = true) then 1 else 0

/-- The closing of an attempt in both scopes (R56, R84).  The lifetime start group changes with START ATTEMPTS
below the ceiling; the hire scope's changes whole or not at all: with a hire OPEN, START ATTEMPTS there
below the ceiling, and no counter of the group above its lifetime value after.  A cold attempt adds 20
STARTER UNITS. -/
def AttemptClosed (outcome : Fin 47) (s t : State) : Prop :=
  (∀ k ∈ startGroup, t.table.life[k] =
      (if s.table.life[(0 : Fin 47)] < ceiling
       then capAdd ceiling s.table.life[k] (groupShare outcome s.start.cold k) else s.table.life[k]))
    ∧ (∀ k ∈ startGroup, t.table.hire[k] =
      (if s.hire.state = .opened ∧ s.table.hire[(0 : Fin 47)] < ceiling
          ∧ ∀ j ∈ startGroup,
            capAdd ceiling s.table.hire[j] (groupShare outcome s.start.cold j) ≤ t.table.life[j]
       then capAdd ceiling s.table.hire[k] (groupShare outcome s.start.cold k) else s.table.hire[k]))
    ∧ Rose 6 (if s.start.cold then 20 else 0) s t

/-- No attempt is closed: the start group stays in both scopes. -/
def NoneClosed (s t : State) : Prop := ∀ k ∈ startGroup, Rose k 0 s t

/-- The start machine once a crank begins at part milliseconds `atMs`, as from STOPPED (R57): its begin time,
the cold flag by the effective COOLANT, and the long-crank timer started at the moment `now`. -/
def cranked (now atMs : Nat) (s : State) (m : StartMachine) : StartMachine :=
  { m with
    state := .cranking, begunMs := atMs
    cold := (s.effectiveNum .coolant).any fun v => decide (v < s.profile.coldLimit)
    longTimer := some (now + s.profile.longCrankLimit * 1000000) }

/-- A crank begin at part milliseconds `atMs`, taken at the moment `now` (R57). -/
def CrankBegun (now atMs : Nat) (s t : State) : Prop :=
  match s.start.state with
  | .stopped => t.start = cranked now atMs s s.start ∧ NoneClosed s t ∧ Rose 6 0 s t ∧ Rose 7 0 s t
  | .confirming => t.start = cranked now atMs s s.start ∧ AttemptClosed 2 s t ∧ Rose 7 0 s t ∧ Rose 11 0 s t
  | .running =>
    t.start = { s.start with begunMs := atMs, inCrank := true } ∧ NoneClosed s t ∧ Rose 6 0 s t ∧ Rose 7 1 s t
      ∧ Created (s.makeEntry .crankWhileRunning none ((s.effectiveNum .engineSpeed).getD 0).toNat 0) s t
  | .cranking => t.start = s.start ∧ NoneClosed s t ∧ Rose 6 0 s t ∧ Rose 7 0 s t

/-- The duration of the crank in progress, ended at part milliseconds `atMs`, with the remainder before it, in ms
(R59). -/
def crankedMs (atMs : Nat) (s : State) : Nat := s.start.crankMs + (atMs - s.start.begunMs)

/-- A crank end at part milliseconds `atMs` (R59); with no crank in progress it credits nothing. -/
def CrankEnded (atMs : Nat) (s t : State) : Prop :=
  NoneClosed s t
    ∧ (if s.start.state = .cranking ∨ (s.start.state = .running ∧ s.start.inCrank = true) then
        Rose 5 (crankedMs atMs s / 100) s t ∧ Rose 6 (crankedMs atMs s / 100) s t
      else Rose 5 0 s t ∧ Rose 6 0 s t)
    ∧ (match s.start.state with
      | .cranking =>
        t.start = { s.start with
            state := .confirming, longTimer := none, window := 0, confirmed := 0, speedSeen := false
            crankMs := crankedMs atMs s % 100 }
          ∧ t.notices.conditions[2] = false
      | .running =>
        t.start = (if s.start.inCrank then
            { s.start with inCrank := false, crankMs := crankedMs atMs s % 100 } else s.start)
          ∧ t.notices.conditions[2] = s.notices.conditions[2]
      | .stopped | .confirming => t.start = s.start ∧ t.notices.conditions[2] = s.notices.conditions[2])

/-- A counter rises by 1, an entry is created and a condition is pending. -/
def Struck (n : Fin 47) (e : Entry) (source : Fin 14) (s t : State) : Prop :=
  Rose n 1 s t ∧ Created e s t ∧ t.notices.conditions[source] = true

/-- What the gear watcher makes of a change of effective GEAR from `p` to `g` outside a pass (R71, R72);
UNKNOWN is `none`. -/
def GearWatched (p g : Option Int) (s t : State) : Prop :=
  Rose 22 (if p.isSome && g.isSome then 1 else 0) s t
    ∧ (if g = some (-1) ∧ p.any (fun b => decide (1 ≤ b)) = true
          ∧ (s.effectiveNum .vehicleSpeed).any (fun v => decide ((s.profile.reversalSpeed : Int) ≤ v)) = true then
        Struck 23 (s.makeEntry .misuseReverse none ((s.effectiveNum .vehicleSpeed).getD 0).toNat
          (p.getD 0).toNat) 3 s t
       else Rose 23 0 s t)

/-- What the clutch watcher makes of a change of effective CLUTCH ENGAGEMENT outside a pass (R69, R70):
disengaged below 10 with the vehicle speed recorded, engaged above 90, a launch where the recorded
speed is below 20 or unknown. -/
def ClutchWatched (now : Option Int) (s t : State) : Prop :=
  t.trackers.clutch =
      (if s.trackers.clutch.disengaged = false ∧ now.any (fun c => decide (c < 10)) = true then
        { disengaged := true, recorded := s.effectiveNum .vehicleSpeed }
       else if s.trackers.clutch.disengaged = true ∧ now.any (fun c => decide (90 < c)) = true then
        { disengaged := false, recorded := none }
       else s.trackers.clutch)
    ∧ (if s.trackers.clutch.disengaged = true ∧ now.any (fun c => decide (90 < c)) = true then
        Rose 18 1 s t
          ∧ Rose 19 (if s.trackers.clutch.recorded.all (fun v => decide (v < 20)) then 1 else 0) s t
       else Rose 18 0 s t ∧ Rose 19 0 s t)

/-- What the event side makes of an event that it takes (R38, R57 to R59, R69 to R72); the expiry of a crank that
has ended counts nothing. -/
def EventTaken (e : TallyEvent) (s t : State) : Prop :=
  match e with
  | .crankBegin atMs => CrankBegun s.clock.now atMs s t
  | .crankEnd atMs => CrankEnded atMs s t
  | .gear _ p g => GearWatched p g s t
  | .clutch _ v => ClutchWatched v s t
  | .longCrank begunMs =>
    if s.start.state = .cranking ∧ s.start.begunMs = begunMs then
      Struck 8 (s.makeEntry .longCrank none s.profile.longCrankLimit (if s.start.cold then 1 else 0)) 2 s t
    else Rose 8 0 s t
  | .shaftReversal rpm => Struck 41 (s.makeEntry .shaftReversal none rpm 0) 4 s t
  | .shock p1 p2 => Struck 42 (s.makeEntry .drivelineShock none p1 p2) 5 s t

/-! ## What claims say of the trackers in a pass -/

/-- The slip power of a pass in whole kW, 0 where clutch work does not apply (R64). -/
def slipKw (run : Bool) (s : State) : Nat :=
  match s.effectiveNum .engineSpeed, s.effectiveNum .engineTorque, s.effectiveNum .inputShaftSpeed,
    s.effectiveNum .clutchEngagement with
  | some n, some q, some ni, some c =>
    if run = true ∧ 5 ≤ c ∧ c ≤ 95 then (max q 0 * c / 100).toNat * (n - ni).natAbs / 9549 else 0
  | _, _, _, _ => 0

/-- The overspeed tracker in a pass (R53). -/
def OverspeedPass (run : Bool) (n : Option Int) (s t : State) : Prop :=
  let o := s.trackers.overspeed
  if o.active = false then
    if run && n.any (fun v => decide ((s.profile.overspeedLimit : Int) ≤ v)) then
      t.trackers.overspeed = { active := true, peak := (n.getD 0).toNat, duration := 1 }
        ∧ Rose 13 1 s t ∧ Rose 14 1 s t ∧ t.notices.conditions[0] = true
    else t.trackers.overspeed = o ∧ Rose 13 0 s t ∧ Rose 14 0 s t
      ∧ t.notices.conditions[0] = s.notices.conditions[0]
  else if run && n.any (fun v => decide ((s.profile.overspeedLimit : Int) - 100 ≤ v)) then
    t.trackers.overspeed = { active := true, peak := max o.peak (n.getD 0).toNat
                             duration := capAdd 65535 o.duration 1 }
      ∧ Rose 13 1 s t ∧ Rose 14 0 s t ∧ t.notices.conditions[0] = s.notices.conditions[0]
  else t.trackers.overspeed = { o with active := false } ∧ Rose 13 0 s t ∧ Rose 14 0 s t
    ∧ t.notices.conditions[0] = false ∧ Noted 0 .overspeed none o.peak o.duration s t

/-- The clutch hot tracker in a pass of slip power `kw` (R66 to R68). -/
def HotPass (run : Bool) (kw : Nat) (s t : State) : Prop :=
  let h := s.trackers.clutchHot
  if h.active = false then
    if s.profile.hotLimit ≤ kw then
      if 30 ≤ h.hot + 1 then
        t.trackers.clutchHot = { active := true, hot := h.hot + 1, cool := 0, peak := max h.peak kw
                                 duration := 30 }
          ∧ Rose 20 1 s t ∧ Rose 21 30 s t ∧ t.notices.conditions[1] = true
      else t.trackers.clutchHot = { h with hot := h.hot + 1, peak := max h.peak kw }
        ∧ Rose 20 0 s t ∧ Rose 21 0 s t
    else t.trackers.clutchHot = { h with hot := 0, peak := 0 } ∧ Rose 20 0 s t ∧ Rose 21 0 s t
  else if run = false ∨ (kw < s.profile.hotLimit ∧ 30 ≤ h.cool + 1) then
    t.trackers.clutchHot = { active := false, hot := 0, cool := 0, peak := 0, duration := 0 }
      ∧ Rose 20 0 s t ∧ Rose 21 0 s t ∧ t.notices.conditions[1] = false
      ∧ Noted 1 .clutchHot none h.peak h.duration s t
  else t.trackers.clutchHot = { h with
        cool := if s.profile.hotLimit ≤ kw then 0 else h.cool + 1
        peak := if s.profile.hotLimit ≤ kw then max h.peak kw else h.peak
        duration := capAdd 65535 h.duration 1 }
    ∧ Rose 20 0 s t ∧ Rose 21 1 s t

/-- The unhired move tracker in a pass (R76). -/
def UnhiredMovePass (v : Option Int) (s t : State) : Prop :=
  let u := s.trackers.unhiredMove
  let moving := v.any fun x => decide (20 ≤ x)
  let quiet := if moving then 0 else if v.isSome then min 600 (u.quiet + 1) else u.quiet
  let move := if s.hireOpen = false ∧ moving = true then min 50 (u.move + 1) else 0
  if 50 ≤ move ∧ (u.armed = true ∨ 600 ≤ quiet) then
    t.trackers.unhiredMove = { armed := false, move := move, quiet := quiet }
      ∧ Noted 2 .unhiredMove none (v.getD 0).toNat 0 s t
  else t.trackers.unhiredMove = { armed := u.armed || decide (600 ≤ quiet), move := move, quiet := quiet }

/-- The ignition disagreement tracker in a pass (R54). -/
def DisagreementPass (n : Option Int) (s t : State) : Prop :=
  let d := s.trackers.disagreement
  if s.ignitionOn = false ∧ n.any (fun v => decide ((s.profile.runThreshold : Int) ≤ v)) = true then
    t.trackers.disagreement = { count := min 50 (d.count + 1)
                                flag := d.flag || decide (50 ≤ d.count + 1) }
      ∧ (50 ≤ d.count + 1 → d.flag = false →
          Noted 3 .ignitionDisagreement none (n.getD 0).toNat 0 s t)
  else t.trackers.disagreement = { count := 0, flag := false }

/-- The wear check of a pass (R89, R90), on the counts that the pass leaves. -/
def WearPass (s t : State) : Prop :=
  ∀ m : Fin 5,
    t.table.due[m] = decide (0 < s.profile.limits[m]
        ∧ s.profile.limits[m] ≤ wearIndex t.table.life m - t.table.marks[m])
      ∧ t.notices.conditions[dueSource m]
          = (if t.table.due[m] = s.table.due[m] then s.notices.conditions[dueSource m] else t.table.due[m])
      ∧ (s.table.due[m] = false → t.table.due[m] = true →
          Noted (4 + m.val) .serviceDue (some m.val) (wearFraction s.profile.limits t.table m) 0 s t)

/-- The RUN pass count of a pass (R63). -/
def PeriodicPass (s t : State) : Prop :=
  if s.control.mode = .run then
    if 3600 ≤ s.trackers.runPasses + 1 then
      t.trackers.runPasses = 0 ∧ (s.store.state ≠ .faulted → checkpointAsked t.store = true)
    else t.trackers.runPasses = s.trackers.runPasses + 1
  else t.trackers.runPasses = s.trackers.runPasses

/-- The equivalent time of a RUNNING pass of engine speed `n`, in hundredths, with the remainder before it (R52). -/
def workOf (n : Option Int) (s : State) : Nat :=
  s.remainders.engine + (match n, s.effectiveNum .engineTorque with
    | some n, some q => gridWeight s.profile (countsAsOne (s.effective .gridSelect)) n q
    | _, _ => s.profile.fallbackWeight)

/-- The start machine's tick work in a pass of engine speed `n` at the moment `now`, which is part milliseconds
`nowMs` (R56, R60 to R62).  A SUCCESSFUL closing of a cold attempt adds the cold charge to the EQUIVALENT
TIME of the pass, which is a RUNNING one. -/
def StartPass (n : Option Int) (now nowMs : Nat) (s t : State) : Prop :=
  let turning := n.any fun v => decide ((s.profile.runThreshold : Int) ≤ v)
  match s.start.state with
  | .stopped =>
    t.start = (if turning then { s.start with state := .running, assumed := false, stopCount := 0 }
        else s.start)
      ∧ Rose 16 (if turning then 1 else 0) s t ∧ NoneClosed s t
  | .cranking => t.start = s.start ∧ NoneClosed s t
  | .confirming =>
    let w := { s.start with
      window := s.start.window + 1, speedSeen := s.start.speedSeen || n.isSome
      confirmed := if turning then s.start.confirmed + 1 else 0 }
    if 20 ≤ w.confirmed then
      t.start = { w with state := .running, assumed := false, stopCount := 0 } ∧ AttemptClosed 1 s t
        ∧ Rose 11 ((if s.start.cold then s.profile.coldCharge else 0) + workOf n s / 100) s t
    else if w.window < 50 then t.start = w ∧ NoneClosed s t
    else if w.speedSeen then t.start = { w with state := .stopped } ∧ AttemptClosed 2 s t ∧ Rose 11 0 s t
    else t.start = { w with state := .running, assumed := true, stopCount := 0 } ∧ AttemptClosed 3 s t
      ∧ Rose 11 (workOf n s / 100) s t
  | .running =>
    if (n.isSome && !turning) || (n.isNone && !s.ignitionOn) then
      if s.start.stopCount + 1 < 30 then
        t.start = { s.start with stopCount := s.start.stopCount + 1 } ∧ Rose 15 0 s t ∧ NoneClosed s t
      else
        Rose 15 1 s t ∧ NoneClosed s t
          ∧ (s.start.inCrank = false →
              t.start = { s.start with state := .stopped, assumed := false, stopCount := 0 })
          ∧ (s.start.inCrank = true →
              t.start = cranked now nowMs s { s.start with
                  inCrank := false, assumed := false, stopCount := 0, crankMs := crankedMs nowMs s % 100 }
                ∧ Rose 5 (crankedMs nowMs s / 100) s t ∧ Rose 6 (crankedMs nowMs s / 100) s t)
    else t.start = { s.start with stopCount := 0, assumed := s.start.assumed && !turning }
      ∧ Rose 15 0 s t ∧ NoneClosed s t

/-! ## What claims say of lookups and pages -/

/-- The newest valid history record, of all of them with number 0, else of those with the number asked for
(R105, section 8.1): the highest write number, and of equal ones the lower-numbered slot. -/
def NewestRecord (number : Nat) (history : Vector (Option RetainedHire) 8) : Option HireChoice → Prop
  | none => ∀ (i : Fin 8) (x : RetainedHire), history[i] = some x → number ≠ 0 ∧ x.record.number ≠ number
  | some c => ∃ (i : Fin 8) (x : RetainedHire),
      history[i] = some x ∧ (number = 0 ∨ x.record.number = number)
      ∧ c = .retained i x.record.number x.record.serial x.record.closedSeconds
      ∧ ∀ (j : Fin 8) (y : RetainedHire), history[j] = some y → number = 0 ∨ y.record.number = number →
          y.writeNo < x.writeNo ∨ (y.writeNo = x.writeNo ∧ i ≤ j)

/-- A record is pending in the closing buffer that a READ HIRE of a number asks for (R105). -/
def PendingFor (number : Nat) (h : HireControl) (b : HireRecord) : Prop :=
  h.pendingMark = true ∧ h.buffer = some b ∧ (number = 0 ∨ b.number = number)

/-- The rows of R105's lookup, `none` where nothing is found: the live hire for number 0 while a hire is OPEN,
with the part seconds of now as closed part seconds and no closed calendar time; the pending record of
the closing buffer; else the newest history record. -/
def LookedUp (number : Nat) (s : State) (c : Option HireChoice) : Prop :=
  if number = 0 ∧ s.hire.state = .opened then
    ∃ h : HireHeader, s.hire.header = some h ∧ c = some (.live {
      number := h.number, serial := h.serial, openedSeconds := h.openedSeconds
      openedCalendar := h.openedCalendar, closedSeconds := s.control.partSeconds, closedCalendar := none
      counts := s.table.hire, storeFault := h.storeFault, journalDrop := h.journalDrop })
  else (∃ b, PendingFor number s.hire b ∧ c = some (.unwritten b.serial b.closedSeconds))
    ∨ ((∀ b, ¬ PendingFor number s.hire b) ∧ NewestRecord number s.store.history c)

/-- The two values of a SUMMARY page of two counts, pages 0 to 5 (section 11.5). -/
def pagePair (s : State) (n : Nat) : Nat × Nat :=
  match n, s.hire.state, s.hire.header with
  | 0, _, _ => (s.table.life[9], s.table.life[0])
  | 1, _, _ => (s.table.life[11], s.table.life[6])
  | 2, _, _ => (s.table.life[17], s.table.life[18])
  | 3, _, _ => (s.table.life[22], s.table.life[23])
  | 4, _, _ => (s.table.life[39], s.table.life[43])
  | _, .opened, some h => (h.number, s.table.hire[9])
  | _, _, _ => (0, 0)

/-- The wear fraction of a member in half-percent steps (R89). -/
def fractionOf (s : State) (m : Fin 5) : Nat :=
  if s.profile.limits[m] = 0 then 0
  else min 255 ((wearIndex s.table.life m - s.table.marks[m]) * 200 / s.profile.limits[m])

/-- The assigned content of a SUMMARY page (R177, the page tables of sections 11.5 and 13.2). -/
def PageShows (s : State) (n : Nat) (l : List Byte) : Prop :=
  l.length = 8
    ∧ (n ≤ 5 → littleAt l 0 4 = (pagePair s n).1 % 4294967296 ∧ littleAt l 4 4 = (pagePair s n).2 % 4294967296)
    ∧ (n = 6 → (∀ m : Fin 5, byteAt l m.val = fractionOf s m ∧ bitOf (byteAt l 5) m.val = s.table.due[m])
        ∧ byteAt l 6 = (match s.notices.presented with | some k => k.val | none => 0xFF))
    ∧ (n = 7 → littleAt l 0 4 = s.control.partSeconds % 4294967296
        ∧ bitsOf (byteAt l 4) 0 2 = (match s.start.state with
          | .stopped => 0 | .cranking => 1 | .confirming => 2 | .running => 3)
        ∧ bitOf (byteAt l 4) 2 = s.start.assumed)

/-! ## The laws of the device -/

/-- The ranges of the five remainders (R48), for the profile in use. -/
def remaindersIn (p : Profile) (r : Remainders) : Prop :=
  r.engine < 100 ∧ r.clutch < 95493 ∧ r.distance < 360
    ∧ r.forward < max 1 (edgesPerRevolution p) ∧ r.reverse < max 1 (edgesPerRevolution p)

/-- Every checkpoint in the ring or being written meets a test. -/
def everyCheckpoint (st : Store) (p : Checkpoint → Prop) : Prop :=
  (∀ (i : Fin 32) (c : Checkpoint), st.ring[i] = some c → p c)
    ∧ (∀ (j : PortJob) (c : Checkpoint), st.port = .checkpoint j c → p c)

/-- R48: the remainders stay within their ranges; the ranges that no profile moves hold in every
checkpoint. -/
def RemainderLaw (s : State) : Prop :=
  remaindersIn s.profile s.remainders
    ∧ everyCheckpoint s.store fun c =>
        c.remainders.engine < 100 ∧ c.remainders.clutch < 95493 ∧ c.remainders.distance < 360

/-- The two scopes of one counter table (R81, R83, R84): no count above the ceiling, none of the hire scope
above its lifetime count, none at all of the hire scope while no hire is open, and none of counter 45
there. -/
def scopesIn (opened : Bool) (life hire : Vector Nat 47) : Prop :=
  (∀ n : Fin 47, life[n] ≤ ceiling ∧ hire[n] ≤ life[n])
    ∧ hire[45] = 0 ∧ (opened = false → ∀ n : Fin 47, hire[n] = 0)

/-- R84: the hire scope is bounded by the lifetime scope, in working memory and in every checkpoint that
would restore an open hire. -/
def ScopeLaw (s : State) : Prop :=
  scopesIn s.hireOpen s.table.life s.table.hire
    ∧ everyCheckpoint s.store fun c =>
        (∀ n : Fin 47, c.life[n] ≤ ceiling)
          ∧ (c.hireState = .opened → scopesIn true c.life c.hire)

/-- The start law of one scope (R56). -/
def startsAgree (v : Vector Nat 47) : Prop := v[0] = v[1] + v[2] + v[3]

/-- R56: START ATTEMPTS is the sum of its three outcomes, in both scopes. -/
def StartLaw (s : State) : Prop :=
  startsAgree s.table.life ∧ startsAgree s.table.hire
    ∧ everyCheckpoint s.store fun c =>
        startsAgree c.life ∧ (c.hireState = .opened → startsAgree c.hire)

/-- The sum of the fifteen gear-time counters of one scope. -/
def gearSum (v : Vector Nat 47) : Nat := ((List.finRange 15).map fun i => v[(Counter.gearTime i).number]).sum

/-- The time laws of one scope (R49): the gear times add up to RUN TIME until one of these counters has
reached the ceiling, and no partial time exceeds RUN TIME. -/
def timesAgree (v : Vector Nat 47) : Prop :=
  (v[9] < ceiling → (∀ i : Fin 15, v[(Counter.gearTime i).number] < ceiling) → gearSum v = v[9])
    ∧ v[10] ≤ v[9] ∧ v[12] ≤ v[9] ∧ v[13] ≤ v[9]

/-- R49, with the scope law that its hire-scope half rests on. -/
def TimeLaw (s : State) : Prop :=
  ScopeLaw s ∧ timesAgree s.table.life ∧ timesAgree s.table.hire
    ∧ everyCheckpoint s.store fun c =>
        timesAgree c.life ∧ (c.hireState = .opened → timesAgree c.hire)

/-- R88: no service mark exceeds its wear index, in working memory and in every checkpoint. -/
def MarkLaw (s : State) : Prop :=
  (∀ m : Fin 5, s.table.marks[m] ≤ wearIndex s.table.life m)
    ∧ everyCheckpoint s.store fun c => ∀ m : Fin 5, c.marks[m] ≤ wearIndex c.life m

/-- The error account outside BUS OFF (R155): TEC and REC are 8-bit counts, and link state and WARNING
follow them. -/
def accountAgrees (l : Link) : Prop :=
  ∃ n, l.tec = some n ∧ n ≤ 255
    ∧ l.state = (if 128 ≤ n ∨ 128 ≤ l.recCount then .errorPassive else .errorActive)
    ∧ (l.warning = true ↔ 96 ≤ n ∨ 96 ≤ l.recCount)

/-- The link in BUS OFF (R155, R156): no TEC, no WARNING and no STREAM frame. -/
def offAgrees (l : Link) : Prop :=
  l.tec = none ∧ l.warning = false ∧ l.stream = none
    ∧ (∀ t, l.transmitter = some t → isStream t.frame.kind = false)

/-- R152, R155 to R157, R160: the error account, the pacing counter and the counts of the link unit. -/
def LinkLaw (s : State) : Prop :=
  s.link.recCount ≤ 255 ∧ s.link.pacing ≤ 16 ∧ s.link.recovery ≤ 128 ∧ s.link.busOffCount ≤ 65535
    ∧ (s.link.state ≠ .busOff → accountAgrees s.link)
    ∧ (s.link.state = .busOff → offAgrees s.link ∧ s.stream.running = none)

/-- R143, R147, R149: a presented notice's level exceeds the mask level, the dwell runs only for a
presented notice, and LAMP is on exactly while the part is awake and the presented level reaches the
lamp level. -/
def NoticeLaw (s : State) : Prop :=
  (∀ n, s.notices.presented = some n → s.profile.maskLevel < levelOf s.profile n)
    ∧ (s.notices.presented = none → s.notices.dwell = none)
    ∧ s.notices.lamp = (s.awake && lampFor s.profile s.notices.presented)

/-- The answer built by the step of the request at the head of the list fits the places reserved for it
(R163, R164); there is none outside such a step. -/
def builtFits (s : State) : Prop :=
  s.server.built = []
    ∨ (s.arbiter.unit = .step .request
        ∧ ∃ r rest, s.server.requests = r :: rest ∧ s.server.built.length ≤ answerSize r)

/-- R158, R163, R164: the answers placed and the places reserved are at most the four places of the ANSWER
queue, an answer that is built fits its reserved places, and each queue holds frames of its own kind. -/
def AnswerLaw (s : State) : Prop :=
  s.link.answers.length + s.reserved ≤ 4 ∧ builtFits s ∧ s.queuesSorted

/-- R94, R101: what hire control holds agrees with the hire state; a closing whose outcome is still to come has its
record in the closing buffer, and only a closing has an end that waits. -/
def hireAgrees (h : HireControl) : Prop :=
  h.serial < 65536
    ∧ (h.state = .opened ↔ h.header.isSome = true)
    ∧ (∀ x, h.header = some x → x.serial = h.serial)
    ∧ (h.state = .closing ↔ h.deferred.isSome = true)
    ∧ (h.pendingMark = true ↔ h.buffer.isSome = true)
    ∧ (h.state = .closing → h.ending = none → h.pendingMark = true)
    ∧ (h.ending ≠ none → h.state = .closing)

/-- R94, in working memory and in every checkpoint; the end of a closing waits only while a pass runs (R44), so
that a checkpoint taken in CLOSING holds the closing buffer (R106). -/
def HireLaw (s : State) : Prop :=
  hireAgrees s.hire ∧ (s.hire.ending ≠ none → s.arbiter.unit = .pass)
    ∧ everyCheckpoint s.store fun c =>
        c.hireSerial < 65536 ∧ (c.hireState = .opened ↔ c.header.isSome = true)
          ∧ (∀ x, c.header = some x → x.serial = c.hireSerial)
          ∧ (c.hireState = .closing → c.closing.isSome = true)

/-- R43, R45, R6: the arithmetic unit is FREE only when nothing waits for it, a decode has its slot, events
are held only while a pass runs, and the intake holds at most 24 slots. -/
def ArbiterLaw (s : State) : Prop :=
  (s.arbiter.unit = .free →
      s.arbiter.steps = [] ∧ s.arbiter.tickWaiting = false ∧ s.intake.slots = [])
    ∧ (s.arbiter.unit = .decode → s.intake.slots ≠ [])
    ∧ (s.arbiter.unit ≠ .pass → s.arbiter.held = [])
    ∧ s.intake.slots.length ≤ 24

/-- A value of a signal lies in its range; UNKNOWN is a value of GEAR alone (R1). -/
def valueIn (sig : Signal) : Value → Prop
  | .num v => (rangeOf sig).1 ≤ v ∧ v ≤ (rangeOf sig).2
  | .unknown => sig = .gear

/-- An origin record (R14 to R18): a FRESH origin has a value and is not NONE, a freshness timer runs
exactly for a FRESH origin of kind BUS, and values lie in the signal's range. -/
def originAgrees (sig : Signal) (o : Origin) : Prop :=
  (o.fresh = true → o.value.isSome = true ∧ o.kind ≠ .none)
    ∧ (o.timer.isSome = true ↔ o.fresh = true ∧ o.kind = .bus)
    ∧ (∀ v, o.value = some v → valueIn sig v)

/-- The slot state by its origins (R1). -/
def slotAgrees (sig : Signal) (sl : Slot) : Prop :=
  originAgrees sig sl.primary ∧ originAgrees sig sl.alternate
    ∧ (∀ v, sl.effective = some v → valueIn sig v)
    ∧ (sl.holdTimer.isSome = true ↔ sl.state = .held)
    ∧ (match sl.state with
        | .freshPrimary => sl.primary.fresh = true ∧ sl.effective = sl.primary.value
        | .freshAlternate =>
          sl.primary.fresh = false ∧ sl.alternate.fresh = true ∧ sl.effective = sl.alternate.value
        | .held => sl.primary.fresh = false ∧ sl.alternate.fresh = false ∧ sl.effective.isSome = true
        | .never | .lost => sl.primary.fresh = false ∧ sl.alternate.fresh = false ∧ sl.effective = none)

/-- R1: every slot of the signal board agrees with its origins. -/
def BoardLaw (s : State) : Prop := ∀ sig : Signal, slotAgrees sig (s.slot sig)

/-- The link unit at its reset values (R162), but for an error flag that the part is sending; or completing an
attempt that was on the bus at a DEPOT RESTART (R162, R186). -/
def linkAtReset (l : Link) : Prop :=
  l = { Link.reset with drive := l.drive }
    ∨ (l = l.completing ∧ l.transmitter ≠ none ∧ l.state ≠ .busOff)

/-- Every block at its reset value (R1, R7, R8, R13, R14, R29, R41 to R43, R45, R53 to R55, R63, R66, R69, R75,
R106, R121, R123, R139, R162, R163, R165, R170, R176, R177, R179), the levels of the pins and the
retained array left as they are. -/
def AtReset (s : State) : Prop :=
  s.control = { Control.reset s.control.reason with powered := s.control.powered }
    ∧ s.board = .reset ∧ s.intake = .reset ∧ s.inputs = s.inputs.reset ∧ s.arbiter = .reset
    ∧ s.start = .reset ∧ s.trackers = .reset ∧ s.remainders = .reset ∧ s.table = .reset
    ∧ s.hire = .reset ∧ s.journal = .reset ∧ s.store = s.store.reset ∧ s.notices = .reset
    ∧ linkAtReset s.link ∧ s.stream = .reset ∧ s.server = .reset

/-- R183: through STARTING, and while the part is held in reset, every block stays at its reset value. -/
def StartingLaw (s : State) : Prop :=
  (s.control.mode = .starting ∨ s.control.powered = false) → AtReset s

/-- The entries of a JOURNAL job in progress stand at the head of staging, behind the one being written,
whose slot is free (R115, R117). -/
def jobAgrees (st : Store) (staging : List Entry) : Prop :=
  match st.port, st.journalJob with
  | .journalEntry i e, some j => st.journal[i] = none ∧ ∃ rest, staging = e :: rest ∧ j.list <+: rest
  | .journalEntry _ _, none => False
  | _, some j => j.list <+: staging
  | _, none => True

/-- The entries of the journal table (R119): no two share a sequence number, and none has the number space's
end. -/
def tableAgrees (t : Vector (Option Entry) 256) : Prop :=
  (∀ (i : Fin 256) (e : Entry), t[i] = some e → e.seq < ceiling)
    ∧ (∀ (i j : Fin 256) (e f : Entry), t[i] = some e → t[j] = some f → e.seq = f.seq → i = j)

/-- The staging list (R111, R119): at most 8 entries in sequence order, each above every retained entry and
below the next sequence number. -/
def stagingAgrees (j : Journal) (t : Vector (Option Entry) 256) : Prop :=
  j.staging.length ≤ 8 ∧ j.nextSeq ≤ ceiling
    ∧ j.staging.Pairwise (fun a b => a.seq < b.seq)
    ∧ (∀ e ∈ j.staging, e.seq < j.nextSeq)
    ∧ (∀ (i : Fin 256) (e : Entry), t[i] = some e → e.seq < j.nextSeq ∧ ∀ x ∈ j.staging, e.seq < x.seq)

/-- R119: the journal's law, for a part whose working memory is at its reset values through STARTING. -/
def JournalLaw (s : State) : Prop :=
  StartingLaw s ∧ tableAgrees s.store.journal ∧ jobAgrees s.store s.journal.staging
    ∧ everyCheckpoint s.store (fun c => c.nextSeq ≤ ceiling)
    ∧ (s.control.mode ≠ .starting → stagingAgrees s.journal s.store.journal)

end Sys2Proof.Machine
end

