-- ==== Sys2Proof/Certificates/Slice0/Obligations.lean ====
section
/-! DEFINITION. The statements for the provers. -/

open Sys2Proof Sys2Proof.Machine

/-! ## The reset state, the step and the queue -/

/-- The machine right after START-UP meets every law of the device. What is the model's choice here: log entries
2, 24, 25 and 36. -/
def Obligations.ResetMeetsEveryLaw : Prop :=
  RemainderLaw State.reset ∧ ScopeLaw State.reset ∧ StartLaw State.reset ∧ TimeLaw State.reset
    ∧ MarkLaw State.reset ∧ LinkLaw State.reset ∧ NoticeLaw State.reset ∧ AnswerLaw State.reset
    ∧ HireLaw State.reset ∧ ArbiterLaw State.reset ∧ BoardLaw State.reset ∧ StartingLaw State.reset
    ∧ JournalLaw State.reset ∧ ParkLaw State.reset ∧ LostLaw State.reset

/-- A step executes the command at the front of the queue with the queue's rest, and idles on an empty
queue (log entry 3). -/
def Obligations.StepRunsTheFrontCommand : Prop :=
  ∀ (c : Instr) (rest : List Instr) (s : State),
    step (s.setPending (c :: rest)) = exec c (s.setPending rest)
      ∧ step (s.setPending []) = .next (s.setPending [])

/-- No command stops the part: each one answers a next state, in which the queue is as it was and time has not
run back. What is the model's choice here: log entries 5 and 37. -/
def Obligations.EveryCommandAnswersNext : Prop :=
  ∀ (c : Instr) (s : State),
    ∃ t, exec c s = .next t ∧ t.pending = s.pending ∧ s.clock.now ≤ t.clock.now

/-- R186: a part held in reset does nothing. Only time and the levels of its pins change, but at a START-UP or
another supply loss. What is the model's choice here: log entry 38. -/
def Obligations.PartInResetDoesNothing : Prop :=
  ∀ (c : Instr) (s : State), s.control.powered = false →
    (∀ dt, c ≠ .startUp dt) → (∀ dt, c ≠ .supplyLoss dt) →
    ∃ t, exec c s = .next t ∧ t = (s.setClock t.clock).setInputs t.inputs
      ∧ t.clock.msBase = s.clock.msBase ∧ t.clock.msBaseAt = s.clock.msBaseAt
      ∧ (s.inputs = s.inputs.reset → t.inputs = t.inputs.reset)

/-! ## Laws that every step keeps -/

/-- R48: the remainders stay within their ranges. -/
def Obligations.RemaindersStayInRange : Prop :=
  ∀ s t : State, RemainderLaw s → step s = .next t → RemainderLaw t

/-- R84: the hire scope stays bounded by the lifetime scope, and is zero while no hire is open. -/
def Obligations.HireScopeStaysBounded : Prop :=
  ∀ s t : State, ScopeLaw s → step s = .next t → ScopeLaw t

/-- R56: START ATTEMPTS stays the sum of the three outcome counters. -/
def Obligations.StartAttemptsStaySum : Prop :=
  ∀ s t : State, StartLaw s → step s = .next t → StartLaw t

/-- R49: the gear times go on adding up to RUN TIME. -/
def Obligations.GearTimesStaySum : Prop :=
  ∀ s t : State, TimeLaw s → step s = .next t → TimeLaw t

/-- R88: no service mark comes to exceed its wear index. -/
def Obligations.MarksStayBelowIndex : Prop :=
  ∀ s t : State, MarkLaw s → step s = .next t → MarkLaw t

/-- R85, R110: outside STARTING no lifetime counter falls, and neither does the next sequence number. -/
def Obligations.LifetimeCountsNeverFall : Prop :=
  ∀ (c : Instr) (s t : State), exec c s = .next t →
    s.control.mode ≠ .starting → t.control.mode ≠ .starting →
    (∀ n : Fin 47, s.table.life[n] ≤ t.table.life[n]) ∧ s.journal.nextSeq ≤ t.journal.nextSeq

/-- R152, R155 to R157, R160: the error account, the pacing counter and the counts of the link unit keep to
their ranges and to each other. -/
def Obligations.LinkAccountStaysInAgreement : Prop :=
  ∀ s t : State, LinkLaw s → step s = .next t → LinkLaw t

/-- R147: from the reset on and at every step, whatever is commanded, LAMP is on exactly while the part is awake
and the presented source's level is at or above the lamp level; through STARTING and in PARKED it is off; with
the default levels and lamp level 4 the sources 0, 1 and 3 to 8 light it, and a long crank or a due member does
not, although it may be presented. The presented source stays above the mask level, and the dwell runs for a
presented notice only. -/
def Obligations.PresentedNoticeStaysAboveMask : Prop :=
  NoticeLaw State.reset
  ∧ (∀ s t : State, NoticeLaw s → step s = .next t →
      NoticeLaw t ∧ (t.control.mode = .starting ∨ t.control.mode = .parked → t.notices.lamp = false))
  ∧ ∀ n : Fin 14, fallbackProfile.maskLevel < levelOf fallbackProfile n
      ∧ (lampFor fallbackProfile (some n) = true ↔ n.val ∈ [0, 1, 3, 4, 5, 6, 7, 8])

/-- R158, R163, R164: the answers placed and the places reserved stay within the four places of the ANSWER
queue, the answer built by a request's step fits its places, and each queue holds frames of its own kind. What
is the model's choice here: log entries 8, 40 and 44. -/
def Obligations.AnswersFitTheirPlaces : Prop :=
  ∀ s t : State, AnswerLaw s → step s = .next t → AnswerLaw t

/-- R94: header, buffer, pending mark and deferred answer stay in agreement with the hire state. R44, R82: the
hire state does not change while a pass runs, and neither does the deferred answer. What is the model's choice
here: log entry 41. -/
def Obligations.HireControlStaysInAgreement : Prop :=
  (∀ s t : State, HireLaw s → step s = .next t → HireLaw t)
  ∧ (∀ (c : Instr) (s t : State), s.control.mode ≠ .starting → s.arbiter.unit = .pass →
      (∀ dt, c ≠ .passComplete dt) → exec c s = .next t → t.arbiter.unit = .pass →
      t.hire.state = s.hire.state ∧ t.hire.deferred = s.hire.deferred)

/-- R6, R43, R45: the arithmetic unit is FREE only with nothing waiting, events are held during a pass alone,
and the intake keeps to its 24 slots. What is the model's choice here: log entry 8. -/
def Obligations.FreeUnitHasNothingWaiting : Prop :=
  ∀ s t : State, ArbiterLaw s → step s = .next t → ArbiterLaw t

/-- R1, R14 to R19: every slot of the signal board agrees with its origins and its signal's range. -/
def Obligations.SlotsAgreeWithOrigins : Prop :=
  ∀ s t : State, BoardLaw s → step s = .next t → BoardLaw t

/-- R119, R183: no two entries of the journal table share a sequence number, and the staged entries follow them
in order; every block is at its reset value through STARTING. What is the model's choice here: log entries 25,
27 and 34. -/
def Obligations.JournalStaysInSequence : Prop :=
  ∀ s t : State, JournalLaw s → step s = .next t → JournalLaw t

/-! ## Resets and STARTING -/

/-- START_UP and SUPPLY_LOSS (R162, R183, R186): working memory is at its reset values, the link unit too, the
retained array and the levels of the pins are as they were. What is the model's choice here: log entries 24 and
25. -/
def Obligations.ResetEventsClearWorkingMemory : Prop :=
  ∀ (dt : Nat) (s : State),
    (∃ t, exec (.startUp dt) s = .next t ∧ AtReset t ∧ t.link = .reset ∧ t.control.reason = .power
      ∧ t.control.powered = true ∧ t.inputs = s.inputs.reset ∧ t.store = s.store.reset
      ∧ t.profile = s.profile ∧ t.clock = { s.clock with now := s.clock.now + dt })
    ∧ (∃ t, exec (.supplyLoss dt) s = .next t ∧ AtReset t ∧ t.link = .reset ∧ t.control.reason = .power
      ∧ t.control.powered = false ∧ t.inputs = s.inputs.reset ∧ t.store = s.store.reset
      ∧ t.profile = s.profile ∧ t.clock = { s.clock with now := s.clock.now + dt })

/-- STARTING_END (R29, R42, R137, R161, R183 to R185, R190): the profile of the image, or the FALLBACK profile
with its condition, is in force. The image is read over the I2C line from the device at address 0x50: after at
most two attempts that it leaves unacknowledged, the header from word address 0 by a repeated start, then the
rest up to the image length; with three such attempts, or after 100 ms, the memory does not answer, and
otherwise the first finding of length, check code and format version decides. The part sends nothing but device
and word addresses. The mode follows the IGNITION line; the store is NORMAL; the tick timer runs and the link
unit joins the bus. What is the model's choice here: log entries 12, 21, 34, 57, 60 and 61. -/
def Obligations.StartingEndTakesTheProfile : Prop :=
  ∀ (dt : Nat) (m : MemoryAnswer) (s : State), AtReset s → s.control.powered = true →
    ∃ t, exec (.startingEnd dt m) s = .next t
      ∧ (∀ cause, imageFinding m = some cause →
          t.profile = dropUnwired (checkProfile fallbackProfile)
            ∧ t.control.profileState = .fallback ∧ t.notices.conditions[8] = true)
      ∧ (imageFinding m = none → ∀ raw,
          raw = profileOf (imageBytes m.image (imageLength m.image)) (imageLength m.image) →
          t.profile = dropUnwired (checkProfile raw)
            ∧ t.control.profileState = (if checkProfile raw = raw then .good else .adjusted)
            ∧ t.notices.conditions[8] = false)
      ∧ (∀ e ∈ t.control.memoryLine, (∃ b a, e = .received b a)
          ∨ e ∈ [I2cEvent.start, .repeatedStart, .stop, .sent 0xA0#8 true, .sent 0xA0#8 false,
              .sent 0xA1#8 true, .sent 0xA1#8 false, .sent 0 true, .sent 3 true])
      ∧ (∀ byte : Nat → Byte, byte = (fun i => BitVec.ofNat 8 (memoryByteAt m.image i)) →
          ∀ length, length = (byte 1).toNat + 256 * (byte 2).toNat →
          ∀ fault, fault = (if length < 5 ∨ 512 < length then some 2
            else if (checkCode16 ((List.range (length - 2)).map byte)).toNat
                ≠ (byte (length - 2)).toNat + 256 * (byte (length - 1)).toNat then some 2
            else if byte 0 ≠ 1 then some 3 else none) →
          (100 < m.readMs → imageFinding m = some 1)
            ∧ (imageFinding m = some 1 ∨ imageFinding m = fault)
            ∧ (m.readMs ≤ 100 → ∀ k ∈ List.range 4, (∀ b ∈ m.acks.drop k, b = true) →
              m.acks.take k = List.replicate k false →
              ∀ missed, missed = (List.replicate k [I2cEvent.start, .sent 0xA0#8 false, .stop]).flatten →
              (k = 3 → imageFinding m = some 1 ∧ t.control.memoryLine = missed)
                ∧ (k < 3 → imageFinding m = fault
                  ∧ t.control.memoryLine = missed
                      ++ [.start, .sent 0xA0#8 true, .sent 0 true, .sent 0 true, .repeatedStart,
                          .sent 0xA1#8 true, .received (byte 0) true, .received (byte 1) true,
                          .received (byte 2) false, .stop]
                      ++ (if length ≤ 3 then []
                          else [.start, .sent 0xA0#8 true, .sent 0 true, .sent 3 true, .repeatedStart,
                                .sent 0xA1#8 true]
                            ++ (List.range (length - 3)).map (fun i =>
                                .received (byte (3 + i)) (decide (i + 1 < length - 3)))
                            ++ [.stop]))))
      ∧ t.control.mode =
          (if lineInUse t.profile .ignition = true ∧ s.inputs.ignition.high = t.profile.ignitionLine.activeHigh
           then .run else .attend)
      ∧ t.store.state = .normal
      ∧ t.arbiter.tickTimer = some (s.clock.now + dt + 100000)
      ∧ t.link.participation = .joining
      ∧ NoticeOffered (noticeFrame (t.setFree s.free)) t

/-- STARTING_END with a valid checkpoint, and without one (R48, R85, R86, R88, R106, R135, R136): what recovery
restores. JOURNAL ENTRIES DROPPED (46) may count entries of STARTING itself. What is the model's choice here:
log entries 21 and 25. -/
def Obligations.StartingEndRestoresTheNewestCheckpoint : Prop :=
  ∀ (dt : Nat) (m : MemoryAnswer) (s : State), AtReset s → s.control.powered = true →
    (∀ (i : Fin 32) (x : Checkpoint), Newest s.store.ring i x →
      ∃ t, exec (.startingEnd dt m) s = .next t
        ∧ t.control.partSeconds = x.partSeconds
        ∧ t.clock = { now := s.clock.now + dt, msBase := 1000 * x.partSeconds, msBaseAt := s.clock.now + dt }
        ∧ (∀ n : Fin 47, n ≠ 46 → t.table.life[n] = x.life[n]
            ∧ t.table.hire[n] = if x.hireState = .opened then x.hire[n] else 0)
        ∧ t.table.marks = x.marks
        ∧ t.remainders.engine = x.remainders.engine ∧ t.remainders.clutch = x.remainders.clutch
        ∧ t.remainders.distance = x.remainders.distance
        ∧ t.hire.serial = x.hireSerial
        ∧ t.hire.state = (if x.hireState = .opened then .opened else .noHire)
        ∧ headerKept (if x.hireState = .opened then x.header else none) t.hire.header
        ∧ t.store.nextSlot = slotAfter i ∧ t.store.nextSeq = min ceiling (x.seq + 1))
    ∧ ((∀ i : Fin 32, s.store.ring[i] = none) →
      ∃ t, exec (.startingEnd dt m) s = .next t
        ∧ t.control.partSeconds = 0
        ∧ (∀ n : Fin 47, n ≠ 46 → t.table.life[n] = 0 ∧ t.table.hire[n] = 0)
        ∧ (∀ k : Fin 5, t.table.marks[k] = 0)
        ∧ t.remainders = .reset
        ∧ t.hire = .reset
        ∧ t.store.nextSlot = 0 ∧ t.store.nextSeq = 0)

/-- STARTING_END and the end of a RESTART (R134, R137, R186): the result of recovery and its reason, as the
STARTUP entry shows them where a journal slot is free and the sequence numbers are not used up: 2 BLANK with no
valid checkpoint, 0 CLEAN for one of kind FINAL, PARK or RESTART, 1 UNCLEAN for one of kind PERIODIC or EVENT; 0
POWER after START-UP, 1 RESTART after a DEPOT RESTART, whichever of the answer's sending, the end of its wait
and the outcome of the RESTART job comes last. What is the model's choice here: log entries 4, 24, 34 and 59. -/
def Obligations.RecoveryGivesItsResult : Prop :=
  (∀ (dt result : Nat) (m : MemoryAnswer) (s : State), AtReset s → s.control.powered = true →
    (∀ (i : Fin 256) (e : Entry), s.store.journal[i] = some e → e.seq + 1 < ceiling) →
    (∃ i : Fin 256, s.store.journal[i] = none) →
    ((result = 2 ∧ ∀ i : Fin 32, s.store.ring[i] = none)
      ∨ ∃ (i : Fin 32) (x : Checkpoint), Newest s.store.ring i x ∧ x.nextSeq < ceiling
          ∧ ((result = 0 ∧ (x.kind = .final ∨ x.kind = .park ∨ x.kind = .restart))
            ∨ (result = 1 ∧ (x.kind = .periodic ∨ x.kind = .event)))) →
    ∃ t, exec (.startingEnd dt m) s = .next t ∧ ∃ e ∈ t.journal.staging,
      e.kind = .startup ∧ e.value1 = (if s.control.reason = .power then 0 else 1) ∧ e.value2 = result)
  ∧ (∀ (dt : Nat) (s : State), ∃ t, exec (.startUp dt) s = .next t ∧ t.control.reason = .power)
  ∧ (∀ (dt d : Nat) (verified : Bool) (c : Instr) (w : RestartWait) (s : State), s.control.powered = true →
    s.control.restart = some w →
    ((c = .restartWaitTimeout ∧ w.timer = some d ∧ w.outcome = true)
      ∨ (c = .transmitSuccess dt ∧ w.outcome = true ∧ s.attempting = true
          ∧ s.link.transmitter.any (fun x => decide (x.frame.kind = .restartAnswer)) = true)
      ∨ (c = .checkpointWriteDone dt verified ∧ w.answered = true
          ∧ s.store.port.job.any (·.forRestart) = true ∧ ∀ j, s.store.port ≠ .snapshot j)) →
    ∃ t, exec c s = .next t ∧ t.control.reason = .restart ∧ t.control.mode = .starting)

/-! ## The link unit -/

/-- BUS_JOIN, RECOVERY_COUNT_RUN, BUS_OFF_RECOVERY and RECEIVE_ERROR (R152, R155, R157, R161, R174): the part
joins the bus, counts its way out of BUS OFF, and raises REC by 1, or by 8 where the bus stayed dominant. What
is the model's choice here: log entries 19 and 43. -/
def Obligations.JoiningErrorsAndRecovery : Prop :=
  ∀ (dt : Nat) (s : State), s.attentive →
    (s.link.participation = .joining →
      ∃ t, exec (.busJoin dt) s = .next t
        ∧ Left ((s.advance dt).setLink { s.link with participation := .joined }) t)
    ∧ (s.link.state = .busOff → s.onBus = true →
      ∃ t, exec (.recoveryCountRun dt) s = .next t
        ∧ Left ((s.advance dt).setLink { s.link with recovery := min 128 (s.link.recovery + 1) }) t)
    ∧ (s.link.state = .busOff → 128 ≤ s.link.recovery →
      ∃ t, exec (.busOffRecovery dt) s = .next t
        ∧ Left (((s.advance dt).setLink { s.link with
            tec := some 0, recCount := 0, state := .errorActive, warning := false }).setStream
            { s.stream with lost := none }) t
        ∧ (∀ x, s.stream.lost = some x →
            Owed (streamEnd s x.token .linkLost x.tag x.hire x.sent x.lastSent) t))
    ∧ (∀ dominant : Bool, ∃ t, exec (.receiveError dt dominant) s = .next t
      ∧ (s.receives = true →
          Left ((s.advance dt).setLink { confine { s.link with
            recCount := min 255 (s.link.recCount + (if dominant then 8 else 1)) } with
            drive := if s.link.state = .errorActive then .dominantFlag else .recessiveFlag }) t)
      ∧ (s.receives = false → Left (s.advance dt) t))

/-- FRAME_RECEIVED for a frame of the part's block (R150, R151, R163, R180): a request frame goes behind the
request list where its answer size finds available places; any other frame is ignored. Each cancels a pending
park and loads the park timer with 60 s where its conditions hold. What is the model's choice here: log entries
7 and 44. -/
def Obligations.RequestFrameIsTaken : Prop :=
  ∀ (dt : Nat) (f : Frame) (s : State), s.attentive → s.receives = true →
    f.extended = true → inBlock s.profile.base f.ident = true →
    (∀ k : RequestFrame,
      ((f.remote = false ∧ f.ident.toNat % 256 = 0x08 ∧ k = .request)
        ∨ (f.remote = false ∧ f.ident.toNat % 256 = 0x09 ∧ k = .hold)
        ∨ (f.remote = false ∧ f.ident.toNat % 256 = 0x0A ∧ k = .hireControl)
        ∨ (f.remote = true ∧ 0x40 ≤ f.ident.toNat % 256 ∧ f.ident.toNat % 256 ≤ 0x47
            ∧ k = .page (f.ident.toNat % 256 - 0x40))) →
      ∀ r : Request, r = { frame := k, length := f.length, data := if f.remote then [] else f.data } →
      ∃ t, exec (.frameReceived dt f) s = .next t ∧ t.control.parkPending = false
        ∧ t.control.parkTimer = (if t.mayPark then some (s.clock.now + dt + 60000000) else none)
        ∧ Left ((s.heard dt).setServer { s.server with
            requests := if s.link.answers.length + s.reserved + s.server.held.length + answerSize r ≤ 4
              then s.server.requests ++ [r] else s.server.requests }) t)
    ∧ (((f.remote = false ∧ f.ident.toNat % 256 ≠ 0x08 ∧ f.ident.toNat % 256 ≠ 0x09
          ∧ f.ident.toNat % 256 ≠ 0x0A)
        ∨ (f.remote = true ∧ (f.ident.toNat % 256 < 0x40 ∨ 0x47 < f.ident.toNat % 256))) →
      ∃ t, exec (.frameReceived dt f) s = .next t ∧ t.control.parkPending = false
        ∧ t.control.parkTimer = (if t.mayPark then some (s.clock.now + dt + 60000000) else none)
        ∧ Left (s.heard dt) t)

/-- FRAME_RECEIVED for a frame outside the part's block (R5 to R8, R43, R180), and what its decode writes (R9 to
R16, R19): a frame that no entry accepts is discarded; another one is admitted, refused or dropped by its class,
and a FREE arithmetic unit goes on to decode. With the intake empty before, the decode is of this frame: each
entry of the matched set counts SHORT, NOT AVAILABLE, or APPLIED and CLAMPED, by its field's bytes, its type's
pattern and its scaled value; a report reaches the BUS origin of the entry's signal and rank (said for a signal
that one entry of the set feeds), and signals that no entry of the set feeds keep their slots. A CALENDAR report
that sets the effective value becomes the calendar base with the part seconds of now (R23, R187); one that is
short or not available, one of the alternate while the slot is FRESH-PRIMARY, and one to an origin that is not
BUS leave the base. What is the model's choice here: log entry 8. -/
def Obligations.MatchedFrameIsAdmitted : Prop :=
  ∀ (dt : Nat) (f : Frame) (s : State), s.attentive → s.receives = true →
    ¬ (f.extended = true ∧ inBlock s.profile.base f.ident = true) →
    ∃ t, exec (.frameReceived dt f) s = .next t ∧ t.control.parkPending = false
        ∧ t.control.parkTimer = (if t.mayPark then some (s.clock.now + dt + 60000000) else none)
      ∧ (matchedSet s.profile.entries f = [] → s.intake.slots = [] ∨ s.arbiter.unit ≠ .free →
          Left (s.heard dt) t)
      ∧ (matchedSet s.profile.entries f ≠ [] →
          ∀ high, high = (matchedSet s.profile.entries f).any (fun i => s.profile.entries[i].high) →
          ∀ x : IntakeSlot, x = {
              extended := f.extended, ident := f.ident, length := f.length, data := f.data
              receivedMs := (s.advance dt).nowMs, matched := matchedSet s.profile.entries f } →
          (if (if high then s.intake.slots.length < 24
               else s.intake.slots.length + s.profile.intakeReserve < 24) then
            t.intake.slots = s.intake.slots ++ [x] ∧ t.intake.refusals = s.intake.refusals
              ∧ t.intake.overruns = s.intake.overruns
              ∧ (s.arbiter.unit = .free → t.arbiter.unit = .decode)
           else if high then
            t.intake.slots = s.intake.slots ∧ t.intake.refusals = s.intake.refusals
              ∧ t.intake.overruns = capAdd 65535 s.intake.overruns 1
           else
            t.intake.slots = s.intake.slots ∧ t.intake.overruns = s.intake.overruns
              ∧ t.intake.refusals = capAdd 65535 s.intake.refusals 1)
          ∧ (s.arbiter.unit ≠ .free → Left ((s.heard dt).setIntake t.intake) t
              ∧ t.intake.health = s.intake.health)
          ∧ (s.arbiter.unit = .free → s.intake.slots = [] → t.intake.slots = [x] →
            (∀ i : Fin 16, i ∉ matchedSet s.profile.entries f → t.intake.health[i] = s.intake.health[i])
            ∧ (∀ sig : Signal, (∀ i ∈ matchedSet s.profile.entries f,
                Signal.ofCode s.profile.entries[i].signalCode ≠ some sig) → t.slot sig = s.slot sig)
            ∧ ((∀ i ∈ matchedSet s.profile.entries f,
                Signal.ofCode s.profile.entries[i].signalCode = some .calendar →
                ((s.slot .calendar).origin
                  (if s.profile.entries[i].alternate then .alternate else .primary)).kind ≠ .bus) →
              t.control.calendar = s.control.calendar)
            ∧ ∀ i ∈ matchedSet s.profile.entries f, s.profile.entries[i].fieldType ≤ 5 →
              ∀ sig, Signal.ofCode s.profile.entries[i].signalCode = some sig →
              ∀ e, e = s.profile.entries[i] → ∀ raw, raw = rawOf e f.data →
              ∀ rank, rank = (if e.alternate then Rank.alternate else .primary) →
              ∀ v, v = takenAs sig (scaledOf e raw) →
              ∀ sole, sole = (decide (((s.slot sig).origin rank).kind = .bus)
                && (matchedSet s.profile.entries f).all fun j =>
                  decide (j = i ∨ Signal.ofCode s.profile.entries[j].signalCode ≠ some sig)) →
              ∀ h, h = s.intake.health[i] →
              if f.length < e.startByte + fieldBytesOf e.fieldType then
                t.intake.health[i] = { h with short := capAdd 65535 h.short 1 }
                  ∧ (sole = true → t.slot sig = s.slot sig
                      ∧ (sig = .calendar → t.control.calendar = s.control.calendar))
              else if isNotAvailable e.fieldType raw then
                t.intake.health[i] = { h with notAvailable := capAdd 65535 h.notAvailable 1 }
                  ∧ (sole = true → (if ((s.slot sig).origin rank).fresh then
                      (t.slot sig).origin rank
                        = { (s.slot sig).origin rank with fresh := false, timer := none }
                    else t.slot sig = s.slot sig)
                    ∧ (sig = .calendar → t.control.calendar = s.control.calendar))
              else
                t.intake.health[i] = { h with
                    applied := capAdd 65535 h.applied 1
                    clamped := if v.2 then capAdd 65535 h.clamped 1 else h.clamped }
                  ∧ (sole = true → 0 < e.staleness →
                      ReportTaken (s.clock.now + dt) (s.advance dt).nowMs (10 * e.staleness) rank v.1
                        (s.slot sig) (t.slot sig)
                      ∧ (sig = .calendar → t.control.calendar =
                          (if rank = .alternate ∧ (s.slot sig).state = .freshPrimary then s.control.calendar
                           else some { value := (v.1.num?.getD 0).toNat
                                       takenAt := s.control.partSeconds })))))

/-- TRANSMIT_SUCCESS and LOST_ARBITRATION (R153, R159 to R162, R165, R172): TEC falls by 1 at a success, the
transmitter is empty and takes the next frame by queue order ANSWER, NOTICE, SUMMARY, STREAM, or stays empty;
the item that a STREAM frame closes is counted as sent, in the STREAM END where it was the last. A lost
arbitration leaves the frame for another attempt. An attempt that ends in STARTING sets the link unit. What is
the model's choice here: log entries 17, 18 and 34. -/
def Obligations.AttemptSucceedsOrLoses : Prop :=
  ∀ (dt : Nat) (x : Transmitter) (s : State), s.attentive → s.link.transmitter = some x →
    s.attempting = true →
    (s.control.mode ≠ .starting → ∃ t, exec (.transmitSuccess dt) s = .next t
      ∧ (∀ pacing, pacing = (if x.attempts = 0 then s.link.pacing - 1 else s.link.pacing) →
        Left ((s.advance dt).setLink (confine { s.link with
          tec := s.link.tec.map (· - 1), drive := .nothing, pacing := pacing
          participation := s.link.participation.cleared
          lastStreamEnd := if isStream x.frame.kind then some (s.clock.now + dt)
            else s.link.lastStreamEnd })) t
        ∧ (s.maySend = false → t.link.transmitter = none)
        ∧ (s.maySend = true →
            (∀ f rest, s.link.answers = f :: rest →
              t.link.transmitter = some { frame := f, attempts := 0 })
            ∧ (∀ f rest, s.link.answers = [] → s.reserved < 4 → s.server.held = f :: rest →
              t.link.transmitter = some { frame := f, attempts := 0 })
            ∧ (s.link.answers = [] → s.server.held = [] → s.streamGoesOn →
              t.link.transmitter =
                (match s.link.notice, s.link.summary, s.link.stream with
                  | some f, _, _ => some { frame := f, attempts := 0 }
                  | none, some f, _ => some { frame := f, attempts := 0 }
                  | none, none, some f =>
                    if s.server.holdTimer = none ∧ s.store.state ≠ .quiesced ∧ isStream x.frame.kind = false
                        ∧ s.link.lastStreamEnd.all (fun e =>
                            decide (e + (if pacing = 0 then 2000 else 10000) ≤ s.clock.now + dt)) = true then
                      some { frame := f, attempts := 0 }
                    else none
                  | none, none, none => none))))
      ∧ (∀ r, s.stream.running = some r → ∀ part, x.frame.kind = .stream part true →
          ∀ sent, sent = (if part = .inside then r.sent else r.sent + 1) →
          ∀ last, last = (match part with | .lastOfEntry q => some q | _ => r.lastSent) →
          if r.noMore = false ∨ r.waiting ≠ [] ∨ s.link.stream ≠ none then
            (t.stream.running.map fun k => (k.token, k.sent, k.lastSent)) = some (r.token, sent, last)
          else s.stream.continuation = none →
            t.stream.running = none
              ∧ Owed (streamEnd s r.token .done s.stream.tag r.kind.isHire sent last) t))
    ∧ (s.control.mode ≠ .starting → ∃ t, exec (.lostArbitration dt) s = .next t
      ∧ Left ((s.advance dt).setLink { s.link with
          drive := .nothing
          pacing := if 4 ≤ x.attempts + 1 then 16 else s.link.pacing
          participation := s.link.participation.cleared }) t
      ∧ t.link.transmitter = some { x with attempts := x.attempts + 1 })
    ∧ (s.control.mode = .starting → ∀ c ∈ [Instr.transmitSuccess dt, .lostArbitration dt],
      ∃ t, exec c s = .next t ∧ t.link.account = Link.reset.account ∧ t.link.transmitter = none)

/-- TRANSMIT_ERROR (R153 to R156, R160, R162, R174): TEC rises by 8, but not in ERROR PASSIVE for a missing
acknowledgement alone; above 255 the link enters BUS OFF, which ends a running stream. An attempt that ends in
STARTING sets the link unit. What is the model's choice here: log entries 17 and 34. -/
def Obligations.TransmitErrorRaisesTec : Prop :=
  ∀ (dt tec : Nat) (onlyAck : Bool) (x : Transmitter) (s : State), s.attentive →
    s.link.transmitter = some x → s.attempting = true → s.link.tec = some tec →
    ∃ t, exec (.transmitError dt onlyAck) s = .next t
      ∧ (s.control.mode = .starting →
          t.link.account = Link.account { Link.reset with
            drive := if s.link.state = .errorActive then .dominantFlag else .recessiveFlag }
          ∧ t.link.transmitter = none)
      ∧ (s.control.mode ≠ .starting →
        ∀ risen, risen = (if s.link.state = .errorPassive ∧ onlyAck = true then tec else tec + 8) →
        (risen ≤ 255 →
          Left ((s.advance dt).setLink (confine { s.link with
            tec := some risen
            pacing := if 4 ≤ x.attempts + 1 ∨ s.link.state = .errorPassive then 16 else s.link.pacing
            participation := s.link.participation.cleared
            drive := if s.link.state = .errorActive then .dominantFlag else .recessiveFlag })) t
          ∧ t.link.transmitter = some { x with attempts := x.attempts + 1 })
        ∧ (255 < risen →
          t.link.state = .busOff ∧ t.link.tec = none ∧ t.link.warning = false
            ∧ t.link.busOffCount = capAdd 65535 s.link.busOffCount 1 ∧ t.link.recovery = 0
            ∧ t.link.recCount = s.link.recCount ∧ s.link.answers <+: t.link.answers
            ∧ t.link.stream = none ∧ t.stream.running = none
            ∧ t.link.transmitter = (if isStream x.frame.kind then none else some { x with attempts := 0 })
            ∧ (∀ r, s.stream.running = some r → t.stream.continuation = none
                ∧ t.stream.lost = some { token := r.token, tag := s.stream.tag, hire := r.kind.isHire
                                         sent := r.sent, lastSent := r.lastSent })))

/-! ## The source matcher and the signal board -/

/-- R4 and R5: an entry matches a data frame of its format that agrees with it wherever its mask is 1; the
matched set holds, in index order, exactly the ACCEPT entries that match before the first matching REJECT
entry. -/
def Obligations.MatchedSetStopsAtReject : Prop :=
  (∀ (e : SourceEntry) (f : Frame),
    entryMatches e f = true ↔
      e.valid = true ∧ f.remote = false ∧ f.extended = e.extended
        ∧ ∀ k : Nat, k < (if e.extended then 29 else 11) → e.mask.getLsbD k = true →
            f.ident.getLsbD k = e.ident.getLsbD k)
  ∧ (∀ (table : Vector SourceEntry 16) (f : Frame),
    (matchedSet table f).Pairwise (· < ·)
      ∧ ∀ i : Fin 16, i ∈ matchedSet table f ↔
          entryMatches table[i] f = true ∧ table[i].reject = false
            ∧ ∀ j : Fin 16, j < i → entryMatches table[j] f = true → table[j].reject = false)

/-- FRESHNESS_EXPIRY (R17, R19, R22, R45, R69 to R72): the origin is EXPIRED with its value kept; a slot that
was using it goes to its fresh alternate, or is HELD for 2 s; every other slot is as it was. A GEAR or a CLUTCH
ENGAGEMENT that differs from the one last handed goes to its watcher, which counts shift, misuse reverse,
engagement and launch, or waits for the end of a running pass with the time of the expiry. What is the model's
choice here: log entry 4. -/
def Obligations.FreshnessExpiryMovesTheSlot : Prop :=
  ∀ (sig : Signal) (rank : Rank) (d : Nat) (s : State), s.attentive →
    ((s.slot sig).origin rank).timer = some d → ((s.slot sig).origin rank).fresh = true →
    ∃ t, exec (.freshnessExpiry sig rank) s = .next t
      ∧ (t.slot sig).origin rank = { (s.slot sig).origin rank with fresh := false, timer := none }
      ∧ (∀ k, k ≠ rank → (t.slot sig).origin k = (s.slot sig).origin k)
      ∧ (if rank = .primary ∧ (s.slot sig).state = .freshPrimary ∧ (s.slot sig).alternate.fresh = true then
          (t.slot sig).state = .freshAlternate ∧ (t.slot sig).effective = (s.slot sig).alternate.value
            ∧ (t.slot sig).holdTimer = (s.slot sig).holdTimer
         else if (rank = .primary ∧ (s.slot sig).state = .freshPrimary)
            ∨ (rank = .alternate ∧ (s.slot sig).state = .freshAlternate) then
          (t.slot sig).state = .held ∧ (t.slot sig).effective = (s.slot sig).effective
            ∧ (t.slot sig).holdTimer = some (max s.clock.now d + 2000000)
         else
          (t.slot sig).state = (s.slot sig).state ∧ (t.slot sig).effective = (s.slot sig).effective
            ∧ (t.slot sig).holdTimer = (s.slot sig).holdTimer)
      ∧ (∀ k : Signal, k ≠ sig → t.slot k = s.slot k)
      ∧ (∀ g, g = t.effectiveNum .gear → sig = .gear →
          if g = s.board.handedGear then Rose 22 0 s t ∧ Rose 23 0 s t
          else if s.arbiter.unit ≠ .pass then GearWatched s.board.handedGear g s t
          else t.arbiter.held = s.arbiter.held ++ [{
            arrivedMs := (s.advanceTo d).nowMs
            event := .gear (s.advanceTo d).nowMs s.board.handedGear g }])
      ∧ (∀ v, v = t.effectiveNum .clutchEngagement → sig = .clutchEngagement →
          if v = s.board.handedClutch then Rose 18 0 s t ∧ Rose 19 0 s t
          else if s.arbiter.unit ≠ .pass then ClutchWatched v s t
          else t.arbiter.held = s.arbiter.held ++ [{
            arrivedMs := (s.advanceTo d).nowMs, event := .clutch (s.advanceTo d).nowMs v }])
      ∧ (sig ≠ .crank → sig ≠ .ignition → sig ≠ .gear → sig ≠ .clutchEngagement →
          Left ((s.advanceTo d).setBoard t.board) t)

/-- SLOT_HOLD_EXPIRY (R19 to R21): the slot is LOST without an effective value; for a tally-relevant slot of a
RUNNING engine a SIGNAL LOST entry is created and source 6's condition is set. What is the model's choice here:
log entry 4. -/
def Obligations.HoldExpiryLosesTheSlot : Prop :=
  ∀ (sig : Signal) (d : Nat) (s : State), s.attentive →
    (s.slot sig).holdTimer = some d → (s.slot sig).state = .held →
    ∃ t, exec (.slotHoldExpiry sig) s = .next t
      ∧ t.slot sig = { s.slot sig with state := .lost, effective := none, holdTimer := none }
      ∧ (∀ k : Signal, k ≠ sig → t.slot k = s.slot k)
      ∧ (Machine.Signal.tallyRelevant sig = true → s.start.state = .running →
          Created (s.makeEntry .signalLost none sig.code.val 0) s t ∧ t.notices.conditions[6] = true)
      ∧ (s.start.state ≠ .running → sig ≠ .crank → sig ≠ .ignition → sig ≠ .gear →
          sig ≠ .clutchEngagement → Left ((s.advanceTo d).setBoard t.board) t)

/-! ## The input unit -/

/-- LINE_CHANGE (R27): a watched line that leaves its qualified level starts a measurement, or goes on with one;
a return to that level ends it. SHAFT_EDGE_CANDIDATE (R32): a change begins an edge candidate with its own time;
a change back before its 20 µs are over cancels it. A line that is not watched only changes its level. What is
the model's choice here: log entries 4 and 20. -/
def Obligations.LevelChangesAreTimed : Prop :=
  (∀ (dt : Nat) (line : SenseLine) (high : Bool) (x y : LineState) (s : State), s.attentive →
      x = s.inputs.line line →
      ((x.qualified = none ∧ y = { x with high := high })
        ∨ (x.qualified ≠ none ∧ high = x.high ∧ y = x)
        ∨ (x.qualified = some (high == (lineSetting s.profile line).activeHigh) ∧ high ≠ x.high
            ∧ y = { x with high := high, measuring := none })
        ∨ (x.qualified = some (high != (lineSetting s.profile line).activeHigh) ∧ high ≠ x.high
            ∧ y = { x with
                high := high
                measuring := some (x.measuring.getD
                  { startMs := (s.advance dt).nowMs
                    endsAt := s.clock.now + dt + 1000 * debounceMs (lineSetting s.profile line) }) })) →
      ∃ t, exec (.lineChange dt line high) s = .next t
        ∧ Left ((s.advance dt).setInputs (s.inputs.setLine y line)) t)
  ∧ (∀ (dt : Nat) (line : ShaftLine) (high : Bool) (x y : ShaftPin) (s : State), s.attentive →
      x = s.shaft.pin line →
      ((high = x.high ∧ y = x)
        ∨ (high ≠ x.high ∧ x.accepted = none ∧ y = { x with high := high })
        ∨ (high ≠ x.high ∧ x.accepted ≠ none ∧ x.candidate ≠ none
            ∧ y = { x with high := high, candidate := none })
        ∨ (high ≠ x.high ∧ x.accepted ≠ none ∧ x.candidate = none
            ∧ y = { x with high := high, candidate := some (s.clock.now + dt) })) →
      ∃ t, exec (.shaftEdgeCandidate dt line high) s = .next t
        ∧ Left ((s.advance dt).setInputs { s.inputs with shaft := s.shaft.setPin y line }) t)

/-- LINE_QUALIFIED for IGNITION, CRANK and CLUTCH PEDAL (R18, R19, R22, R27, R28, R45, R69, R70, R179, R181,
R182): the qualified level changes, and every LINE origin of the line's signal takes the level's value at the
qualification time. A change of effective IGNITION moves RUN to ATTEND with a checkpoint asked for, ATTEND to
RUN with the park given up, and PARKED to RUN with the clocks, the link unit, LAMP and a NOTICE frame started
again; a change of the pedal goes to the clutch watcher, or waits for the end of a running pass. Every step
keeps SIGNAL LOST pending only while a tally-relevant slot is LOST (R21), with the law that STARTING holds reset
values. What is the model's choice here: log entries 4, 17, 20, 25 and 34. -/
def Obligations.QualifiedLineFeedsItsSignal : Prop :=
  (∀ s t : State, StartingLaw s → LostLaw s → step s = .next t → LostLaw t)
  ∧ (∀ (line : SenseLine) (sig : Signal) (q : Bool) (v : Int) (m : Measurement) (s : State), s.attentive →
    LostLaw s →
    (s.inputs.line line).measuring = some m → (s.inputs.line line).qualified = some q →
    ((line = .ignition ∧ sig = .ignition ∧ v = if q then 0 else 1)
      ∨ (line = .crank ∧ sig = .crank ∧ v = if q then 0 else 1)
      ∨ (line = .clutchPedal ∧ sig = .clutchEngagement ∧ v = if q then 100 else 0)) →
    ∃ t, exec (.lineQualified line) s = .next t
      ∧ t.inputs = s.inputs.setLine { s.inputs.line line with qualified := some (!q), measuring := none } line
      ∧ (∀ rank, ((s.slot sig).origin rank).kind = .line →
          (t.slot sig).origin rank = { (s.slot sig).origin rank with
            value := some (.num v), ageBase := m.startMs + debounceMs (lineSetting s.profile line)
            fresh := true })
      ∧ ((s.slot sig).primary.kind = .line →
          (t.slot sig).state = .freshPrimary ∧ (t.slot sig).effective = some (.num v))
      ∧ ((s.slot sig).primary.kind ≠ .line → (s.slot sig).alternate.kind = .line →
          (s.slot sig).state ≠ .freshPrimary →
          (t.slot sig).state = .freshAlternate ∧ (t.slot sig).effective = some (.num v))
      ∧ (∀ k : Signal, k ≠ sig → t.slot k = s.slot k)
      ∧ t.profile = s.profile ∧ t.intake = s.intake ∧ t.remainders = s.remainders
      ∧ t.store.state = s.store.state
      ∧ (sig ≠ .ignition → t.control.mode = s.control.mode)
      ∧ (∀ on now, sig = .ignition → on = t.ignitionOn → now = max s.clock.now m.endsAt →
          t.board.handedIgnition = on
          ∧ (on = s.board.handedIgnition → t.control.mode = s.control.mode)
          ∧ (on ≠ s.board.handedIgnition →
              t.control.mode = (match s.control.mode, on with
                | .run, false => .attend
                | .attend, true => .run
                | .parked, true => .run
                | k, _ => k)
              ∧ (s.control.mode = .run → on = false → s.store.state ≠ .faulted →
                  checkpointAsked t.store = true)
              ∧ (s.control.mode = .attend → on = true →
                  t.control.parkTimer = none ∧ t.control.parkPending = false)
              ∧ (s.control.mode = .parked → on = true →
                  t.arbiter = { s.arbiter with tickTimer := some (now + 100000) }
                  ∧ t.link.participation = (if s.link.participation.lingers then .rejoining else .joining)
                  ∧ t.server.pageTimer = some (now
                      + s.profile.summaryPeriod * 125000 * (if 0 < s.link.pacing then 2 else 1))
                  ∧ t.notices = { s.notices with
                      lamp := lampFor s.profile s.notices.presented
                      repeatTimer := some (now
                        + (if s.notices.presented.isSome then 1000000 else 10000000)) }
                  ∧ NoticeOffered (noticeFrame (t.setFree s.free)) t)))
      ∧ (∀ c, c = t.effectiveNum .clutchEngagement → sig = .clutchEngagement →
          if c = s.board.handedClutch then Rose 18 0 s t ∧ Rose 19 0 s t
          else if s.arbiter.unit ≠ .pass then ClutchWatched c s t
          else t.arbiter.held = s.arbiter.held ++ [{
            arrivedMs := (s.advanceTo m.endsAt).nowMs
            event := .clutch (m.startMs + debounceMs (lineSetting s.profile line)) c }]))

/-- LINE_QUALIFIED for POWER WARNING (R28, R132, R133): an assertion makes a NORMAL store QUIESCED with a FINAL
CHECKPOINT job waiting or at the port, a deassertion makes a QUIESCED store NORMAL, which takes an EVENT trigger
if a FINAL CHECKPOINT was attempted. What is the model's choice here: log entry 4. -/
def Obligations.PowerWarningQuiescesTheStore : Prop :=
  ∀ (q : Bool) (m : Measurement) (s : State), s.attentive →
    s.inputs.powerWarning.measuring = some m → s.inputs.powerWarning.qualified = some q →
    ∃ t, exec (.lineQualified .powerWarning) s = .next t
      ∧ t.inputs = { s.inputs with
          powerWarning := { s.inputs.powerWarning with qualified := some (!q), measuring := none } }
      ∧ (q = false → s.store.state = .normal →
          t.store.state = .quiesced ∧ t.store.finalAttempted = false
            ∧ (t.store.waitFinal.isSome || finalInProgress t.store.port) = true)
      ∧ (q = true → s.store.state = .quiesced →
          t.store.state = .normal ∧ t.store.finalAttempted = false
            ∧ (s.store.finalAttempted = true → checkpointAsked t.store = true))
      ∧ ((q = false ∧ s.store.state ≠ .normal) ∨ (q = true ∧ s.store.state ≠ .quiesced) →
          Left ((s.advanceTo m.endsAt).setInputs t.inputs) t)
      ∧ t.table.marks = s.table.marks ∧ t.board = s.board ∧ t.link.account = s.link.account

/-- SHAFT_EDGE_ACCEPTED (R32 to R39): the accepted level follows, and an edge that the encoding counts is
counted in its direction. A change of direction breaks the chain with speed 0 and is a reversal at or above the
reversal rpm in RUN or ATTEND. A rising edge of A loads the 2 s timeout; within a chain it gives the period and
the speed, and with the period before it the shock test. A reversal or a shock is counted with its entry and its
notice outside a pass, and waits for the end of a running one. What is the model's choice here: log entries 4,
49 and 50. -/
def Obligations.AcceptedEdgeIsCounted : Prop :=
  ∀ (line : ShaftLine) (c : Nat) (s : State), s.attentive → (s.shaft.pin line).candidate = some c →
    ∃ t, exec (.shaftEdgeAccepted line) s = .next t
      ∧ t.shaft.pin line = { s.shaft.pin line with
          accepted := some (s.shaft.pin line).high, candidate := none }
      ∧ (∀ k, k ≠ line → t.shaft.pin k = s.shaft.pin k)
      ∧ t.profile = s.profile ∧ t.intake = s.intake ∧ t.remainders = s.remainders
      ∧ (∀ (counted forward other turned : Bool),
          other = (s.shaft.pin (if line = .a then .b else .a)).accepted.getD false →
          counted = (decide (line = .a ∧ (s.shaft.pin line).high = true)
            || decide (line = .a ∧ (s.profile.encodingCode = 1 ∨ s.profile.encodingCode = 2))
            || decide (line = .b ∧ s.profile.encodingCode = 2)) →
          forward = ((if line = .a then (s.shaft.pin line).high != other
            else (s.shaft.pin line).high == other) != s.profile.invert) →
          turned = (counted && s.shaft.direction == some (if forward then .reverse else .forward)) →
          t.shaft.forward = (if counted && forward then capAdd ceiling s.shaft.forward 1
            else s.shaft.forward)
          ∧ t.shaft.reverse = (if counted && !forward then capAdd ceiling s.shaft.reverse 1
            else s.shaft.reverse)
          ∧ t.shaft.direction = (if counted then some (if forward then .forward else .reverse)
            else s.shaft.direction)
          ∧ (∀ chain period, chain = (if turned then none else s.shaft.chain) →
            period = (if turned then none else s.shaft.period) →
            ∀ (rising reversal shock : Bool),
            rising = (decide (line = .a) && (s.shaft.pin line).high) →
            reversal = (turned && s.awake && decide (s.profile.reversalRpm ≤ s.shaft.speed)) →
            shock = (rising && s.awake && s.shaft.holdoff.isNone && decide (0 < s.profile.shockRatio)
              && chain.any fun e => period.any fun p =>
                decide (max p (c - e) ≤ 20000
                  ∧ s.profile.shockRatio * max p (c - e) < 4 * (max p (c - e) - min p (c - e)))) →
            t.shaft.timeout = (if rising then some (c + 2000000) else s.shaft.timeout)
            ∧ t.shaft.chain = (if rising then some c else chain)
            ∧ t.shaft.period = (if rising then (match chain with
                | some e => some (c - e)
                | none => period) else period)
            ∧ t.shaft.speed = (match rising, chain with
                | true, some e => min 16383 (60000000 / ((c - e) * s.profile.teeth))
                | _, _ => if turned then 0 else s.shaft.speed)
            ∧ t.shaft.holdoff = (if shock then some (c + 500000) else s.shaft.holdoff)
            ∧ (t.shaft.speed ≠ s.shaft.speed → hasShaftOrigin (s.slot .vehicleSpeed) = true →
                t.shaft.handedSpeed = min 2500 (t.shaft.speed * s.profile.speedFactor / 1000))
            ∧ (∀ p e, period = some p → chain = some e →
              if s.arbiter.unit = .pass then
                t.arbiter.held = s.arbiter.held ++ (if shock then [{
                  arrivedMs := (s.advanceTo (c + 20)).nowMs, event := .shock p (c - e) }] else [])
              else Rose 42 (if shock then 1 else 0) s t
                ∧ (shock = true → t.notices.conditions[5] = true
                  ∧ Created (s.makeEntry .drivelineShock none p (c - e)) s t))
            ∧ (if s.arbiter.unit = .pass then
                turned = true → t.arbiter.held = s.arbiter.held ++ (if reversal then [{
                  arrivedMs := (s.advanceTo (c + 20)).nowMs
                  event := .shaftReversal s.shaft.speed }] else [])
              else Rose 41 (if reversal then 1 else 0) s t
                ∧ (reversal = true → t.notices.conditions[4] = true
                  ∧ Created (s.makeEntry .shaftReversal none s.shaft.speed 0) s t))
            ∧ (∀ k : Fin 47, k ≠ 41 → k ≠ 42 → k ≠ 46 → Rose k 0 s t)))

/-- SPEED_TIMEOUT (R35, R39): the shaft speed is 0, the chain broken with no period held, and the SHAFT origins
of VEHICLE SPEED are told 0 where it was not the value last handed. What is the model's choice here: log entries
4 and 51. -/
def Obligations.SpeedTimeoutBreaksTheChain : Prop :=
  ∀ (d : Nat) (s : State), s.attentive → s.shaft.timeout = some d →
    ∃ t, exec .speedTimeout s = .next t
      ∧ (if hasShaftOrigin (s.slot .vehicleSpeed) = true ∧ s.shaft.handedSpeed ≠ 0 then
          t.shaft = { s.shaft with timeout := none, chain := none, period := none, speed := 0
                                   handedSpeed := 0 }
            ∧ (∀ rank, ((s.slot .vehicleSpeed).origin rank).kind = .shaft →
                (t.slot .vehicleSpeed).origin rank = { (s.slot .vehicleSpeed).origin rank with
                  value := some (.num 0), ageBase := (s.advanceTo d).nowMs, fresh := true })
            ∧ (∀ k : Signal, k ≠ .vehicleSpeed → t.slot k = s.slot k)
         else
          Left ((s.advanceTo d).setInputs { s.inputs with
            shaft := { s.shaft with timeout := none, chain := none, period := none, speed := 0 } }) t)

/-- SHOCK_HOLDOFF_EXPIRY, HOLD_EXPIRY, STREAM_GAP_EXPIRY and PART_SECONDS_TICK (R37, R159, R176, R187): the
timer stops, part seconds rise by 1; the aftermath alone follows. What is the model's choice here: log entries 4
and 7. -/
def Obligations.PlainTimersRunOut : Prop :=
  ∀ (d : Nat) (s : State), s.attentive →
    (s.shaft.holdoff = some d →
      ∃ t, exec .shockHoldoffExpiry s = .next t
        ∧ Left ((s.advanceTo d).setInputs { s.inputs with shaft := { s.shaft with holdoff := none } }) t)
    ∧ (s.server.holdTimer = some d →
      ∃ t, exec .holdExpiry s = .next t
        ∧ Left ((s.advanceTo d).setServer { s.server with holdTimer := none }) t)
    ∧ (∀ e, s.link.lastStreamEnd = some e →
      d = e + (if s.link.pacing = 0 then 2000 else 10000) →
      ∃ t, exec .streamGapExpiry s = .next t ∧ Left (s.advanceTo d) t
        ∧ (s.maySend = true → s.link.transmitter = none → answersOut s.link ++ s.server.held = [] →
            s.link.notice = none → s.link.summary = none → s.server.holdTimer = none →
            s.store.state ≠ .quiesced → ∀ f, s.link.stream = some f →
            t.link.transmitter = some { frame := f, attempts := 0 }))
    ∧ (s.control.secondsTimer = some d →
      ∃ t, exec .partSecondsTick s = .next t
        ∧ Left ((s.advanceTo d).setControl { s.control with
            partSeconds := capAdd ceiling s.control.partSeconds 1
            secondsTimer := some (d + 1000000) }) t)

/-! ## The tally engine -/

/-- DECODE_COMPLETE, PASS_COMPLETE, STEP_COMPLETE and TALLY_TICK (R40, R42, R43, R45): the unit goes to the
oldest waiting step, then to a waiting tick, then to the oldest intake slot, and is FREE with none of them; the
tick timer is loaded again from its own moment, a FREE unit begins a pass, which reads and clears the edge
counts, and another one keeps one tick waiting. At the end of a pass the events held for it are taken first, one
after the other in the order of their arrival, each with its effects (R38, R45, R57 to R59, R69 to R72); then a
closing whose outcome came during the pass ends in NO HIRE, with its deferred answer (R44, R82, R101 to R103);
what follows is as at the end of any step of the unit. The end of a request's step places the answer it built
and releases the reserved places (R164). What is the model's choice here: log entries 4, 8, 10, 41 and 58. -/
def Obligations.UnitIsGrantedInOrder : Prop :=
  (∀ (dt : Nat) (c : Instr) (slots : List IntakeSlot) (s : State), s.attentive →
      ((c = .decodeComplete dt ∧ s.arbiter.unit = .decode ∧ ∃ x, s.intake.slots = x :: slots)
        ∨ (c = .passComplete dt ∧ s.arbiter.unit = .pass ∧ s.intake.slots = slots)
        ∨ (c = .stepComplete dt ∧ (∃ w, s.arbiter.unit = .step w) ∧ s.intake.slots = slots)) →
      ∃ t, exec c s = .next t ∧ t.intake.slots = slots ∧ t.profile = s.profile
        ∧ (s.awake = true → t.arbiter.tickTimer = s.arbiter.tickTimer)
        ∧ t.arbiter.held = (if s.arbiter.unit = .pass then [] else s.arbiter.held)
        ∧ (∀ w rest, s.arbiter.steps = w :: rest →
            t.arbiter.unit = .step w ∧ t.arbiter.steps = rest
              ∧ t.arbiter.tickWaiting = s.arbiter.tickWaiting)
        ∧ (s.arbiter.steps = [] →
            t.arbiter.steps = [] ∧ t.arbiter.tickWaiting = false
              ∧ t.arbiter.unit =
                (if s.arbiter.tickWaiting then .pass else if slots = [] then .free else .decode)))
  ∧ (∀ (dt : Nat) (u v s : State), s.attentive → s.arbiter.unit = .pass →
      u = s.arbiter.held.foldl (fun u e => takeEvent e.event u)
        ((s.advance dt).setArbiter { s.arbiter with unit := .free, held := [] }) →
      (s.hire.ending = none → v = u) →
      (∀ e, s.hire.ending = some e → ∀ w,
        w = u.setHire { u.hire with state := .noHire, deferred := none, ending := none } →
        v = (match s.hire.deferred with
          | some a => oweAnswer (hireAnswer u 2 a.token (toLittle 4 a.number)
              (if e = .written then .done else .storeFault)) w
          | none => w)) →
      exec (.passComplete dt) s = exec (.stepComplete 0) (v.setArbiter { v.arbiter with unit := .step .page })
        ∧ (∃ t, exec (.passComplete dt) s = .next t
            ∧ (s.hire.ending ≠ none → s.arbiter.steps = [] → t.hire.state = .noHire ∧ t.hire.deferred = none))
        ∧ (s.arbiter.steps = [] → s.arbiter.tickWaiting = false → s.intake.slots = [] →
            ∃ t, exec (.passComplete dt) s = .next t ∧ Left v t
              ∧ (∀ a, s.hire.deferred = some a → ∀ e, s.hire.ending = some e →
                  Owed (hireAnswer s 2 a.token (toLittle 4 a.number)
                    (if e = .written then .done else .storeFault)) t)))
  ∧ (∀ (e : TallyEvent) (s : State), EventTaken e s (takeEvent e s))
  ∧ (∀ (dt : Nat) (s : State), s.attentive → s.queuesSorted → s.arbiter.unit = .step .request →
      WholeStep.request ∉ s.arbiter.steps →
      ∃ t, exec (.stepComplete dt) s = .next t ∧ Placed s.server.built s t
        ∧ t.server.requests = s.server.requests.drop 1 ∧ t.server.built = [])
  ∧ (∀ (d : Nat) (s : State), s.attentive → s.arbiter.tickTimer = some d →
      ∃ t, exec .tallyTick s = .next t
        ∧ (s.arbiter.unit = .free →
            t.arbiter = { s.arbiter with unit := .pass, tickTimer := some (d + 100000) }
              ∧ t.inputs = { s.inputs with shaft := { s.shaft with forward := 0, reverse := 0 } }
              ∧ t.board = s.board ∧ t.intake = s.intake ∧ t.clock = { s.clock with now := max s.clock.now d })
        ∧ (s.arbiter.unit ≠ .free →
            Left ((s.advanceTo d).setArbiter { s.arbiter with
              tickWaiting := true, tickTimer := some (d + 100000) }) t))

/-- A pass with the engine RUNNING and N at or above the run threshold (R49, R50, R52, R61, R65, R73, R74, R77):
what it adds to the counters of time, work, distance and revolutions, and the remainders it leaves; each
increment reaches the lifetime scope, and with a hire OPEN the hire scope, UNHIRED RUN TIME apart (R82 to R84).
Any pass (R53, R54, R63, R66 to R68, R76, R90): what it makes of the overspeed, clutch hot, unhired move and
disagreement trackers, of the due states and of the RUN pass count, with their counters, entries and notices.
What is the model's choice here: log entries 4 and 8. -/
def Obligations.RunningPassCounts : Prop :=
  (∀ (d : Nat) (n : Int) (s : State), s.attentive → s.arbiter.tickTimer = some d →
    s.arbiter.unit = .free → s.start.state = .running →
    s.effectiveNum .engineSpeed = some n → (s.profile.runThreshold : Int) ≤ n →
    ∃ t, exec .tallyTick s = .next t ∧ t.start.state = .running
      ∧ Rose 9 1 s t
      ∧ (∀ i : Fin 15, Rose (Counter.gearTime i).number
          (if i = gearIndex (s.effectiveNum .gear) then 1 else 0) s t)
      ∧ Rose 45 (if s.hire.state = .opened then 0 else 1) s t
      ∧ Rose 10 (if n < s.profile.idleCeiling ∧ (∀ v, s.effectiveNum .vehicleSpeed = some v → v < 20)
          then 1 else 0) s t
      ∧ (∀ w, w = (match s.effectiveNum .engineTorque with
            | some q => gridWeight s.profile (countsAsOne (s.effective .gridSelect)) n q
            | none => s.profile.fallbackWeight) →
          Rose 11 ((s.remainders.engine + w) / 100) s t
            ∧ t.remainders.engine = (s.remainders.engine + w) % 100)
      ∧ Rose 12 (if s.effectiveNum .engineTorque = none then 1 else 0) s t
      ∧ (∀ q, s.effectiveNum .engineTorque = some q → ∀ ni, s.effectiveNum .inputShaftSpeed = some ni →
          ∀ c, s.effectiveNum .clutchEngagement = some c → 5 ≤ c → c ≤ 95 →
          ∀ p, p = (max q 0 * c / 100).toNat * (n - ni).natAbs →
          Rose 17 ((s.remainders.clutch + p) / 95493) s t
            ∧ t.remainders.clutch = (s.remainders.clutch + p) % 95493)
      ∧ (∀ v, s.effectiveNum .vehicleSpeed = some v →
          Rose 43 ((s.remainders.distance + v.toNat) / 360) s t
            ∧ t.remainders.distance = (s.remainders.distance + v.toNat) % 360
            ∧ Rose 44 (if 20 ≤ v then 1 else 0) s t)
      ∧ (0 < s.profile.teeth → ∀ e, e = edgesPerRevolution s.profile →
          Rose 39 ((s.remainders.forward + s.shaft.forward) / e) s t
            ∧ t.remainders.forward = (s.remainders.forward + s.shaft.forward) % e
            ∧ Rose 40 ((s.remainders.reverse + s.shaft.reverse) / e) s t
            ∧ t.remainders.reverse = (s.remainders.reverse + s.shaft.reverse) % e)
      ∧ (∀ k : Fin 47, k ∈ ([0, 1, 2, 3, 4, 5, 6, 7, 8, 15, 16, 18, 19, 22, 23, 41, 42] : List (Fin 47)) →
          Rose k 0 s t))
  ∧ (∀ (d : Nat) (s : State), s.attentive → s.arbiter.tickTimer = some d → s.arbiter.unit = .free →
    ∃ t, exec .tallyTick s = .next t
      ∧ ∀ run, run = decide (t.start.state = .running) →
        OverspeedPass run (s.effectiveNum .engineSpeed) s t
          ∧ HotPass run (slipKw run s) s t
          ∧ UnhiredMovePass (s.effectiveNum .vehicleSpeed) s t
          ∧ DisagreementPass (s.effectiveNum .engineSpeed) s t
          ∧ WearPass s t ∧ PeriodicPass s t)

/-- LONG_CRANK_EXPIRY (R58): LONG CRANKS, its entry and its condition. A qualified CRANK line begins and ends
cranks (R28, R57, R59), or its event waits for the end of a running pass: a begin in STOPPED starts an attempt
with begin time, cold flag and long-crank timer; in CONFIRMING it closes the pending one as FAILED first; in
RUNNING it counts CRANKS WHILE RUNNING, with its entry. An end, in RUNNING too, credits the tenths of a second
to CRANK TIME and STARTER UNITS, the rest to the remainder. The start machine's work in a pass (R56, R60 to
R62): the window of a start and its outcomes SUCCESSFUL, FAILED and UNCONFIRMED with the start group and the
charges of a cold attempt, the stop of the engine, and a start that was not observed. Each increment reaches the
lifetime scope, and with a hire OPEN the hire scope (R82 to R84). What is the model's choice here: log entries
4, 11 and 58. -/
def Obligations.CranksAreCounted : Prop :=
  (∀ (d : Nat) (s : State), s.attentive → s.start.longTimer = some d → s.arbiter.unit ≠ .pass →
    s.start.state = .cranking →
    ∃ t, exec .longCrankExpiry s = .next t
      ∧ Struck 8 (s.makeEntry .longCrank none s.profile.longCrankLimit (if s.start.cold then 1 else 0)) 2 s t
      ∧ (∀ k : Fin 47, k ≠ 8 → k ≠ 46 → Rose k 0 s t)
      ∧ t.start = { s.start with longTimer := none } ∧ t.board = s.board ∧ t.inputs = s.inputs
      ∧ t.remainders = s.remainders ∧ t.hire.withoutHeader = s.hire.withoutHeader)
  ∧ (∀ (m : Measurement) (q : Bool) (atMs : Nat) (s : State), s.attentive →
    s.inputs.crank.measuring = some m → s.inputs.crank.qualified = some q →
    (s.slot .crank).primary.kind = .line → s.board.handedCrank = q →
    atMs = m.startMs + debounceMs s.profile.crankLine →
    ∃ t, exec (.lineQualified .crank) s = .next t ∧ t.remainders = s.remainders ∧ t.board.handedCrank = !q
      ∧ (∀ k : Fin 47, k ∉ startGroup → k ≠ 5 → k ≠ 6 → k ≠ 7 → k ≠ 46 → Rose k 0 s t)
      ∧ (if s.arbiter.unit = .pass then
          t.start = s.start
            ∧ t.arbiter.held = s.arbiter.held ++ [{
                arrivedMs := (s.advanceTo m.endsAt).nowMs
                event := if q then .crankEnd atMs else .crankBegin atMs }]
         else if q then CrankEnded atMs s t ∧ Rose 7 0 s t
         else CrankBegun (max s.clock.now m.endsAt) atMs s t ∧ Rose 5 0 s t))
  ∧ (∀ (d : Nat) (s : State), s.attentive → s.arbiter.tickTimer = some d → s.arbiter.unit = .free →
    ∃ t, exec .tallyTick s = .next t
      ∧ StartPass (s.effectiveNum .engineSpeed) (max s.clock.now d) (s.advanceTo d).nowMs s t)

/-! ## The mode controller -/

/-- WAKE_BY_BUS (R148, R149, R161, R177, R182): the mode follows effective IGNITION, the tick and page timers
run, the link unit joins the bus, a NOTICE frame is queued and LAMP follows the presented notice. What is the
model's choice here: log entries 1 and 17. -/
def Obligations.WakeStartsTheAwakeClocks : Prop :=
  ∀ (dt : Nat) (s : State), s.attentive →
    (s.control.mode = .parked →
      ∃ t, exec (.wakeByBus dt) s = .next t
        ∧ t.control.mode = (if s.ignitionOn = true then .run else .attend)
        ∧ t.arbiter = { s.arbiter with tickTimer := some (s.clock.now + dt + 100000) }
        ∧ t.link.participation = (if s.link.participation.lingers then .rejoining else .joining)
        ∧ t.server.pageTimer = some (s.clock.now + dt
            + s.profile.summaryPeriod * 125000 * (if 0 < s.link.pacing then 2 else 1))
        ∧ t.notices = { s.notices with
            lamp := lampFor s.profile s.notices.presented
            repeatTimer := some (s.clock.now + dt
              + (if s.notices.presented.isSome then 1000000 else 10000000)) }
        ∧ NoticeOffered (noticeFrame (t.setFree s.free)) t
        ∧ t.board = s.board ∧ t.inputs = s.inputs ∧ t.start = s.start ∧ t.table.marks = s.table.marks)
    ∧ (s.control.mode ≠ .parked → ∃ t, exec (.wakeByBus dt) s = .next t ∧ Left (s.advance dt) t)

/-- PARK_TIMER_EXPIRY (R125, R161, R180, R181): every step keeps the park timer running only while its
conditions hold. At its expiry a PARK trigger is handed to the store and the part waits for its outcome; a
FAULTED store reports it as not written at once, and the part enters PARKED. What is the model's choice here:
log entries 4, 17, 29 and 54. -/
def Obligations.ParkTimerAsksForACheckpoint : Prop :=
  (∀ s t : State, ParkLaw s → step s = .next t → ParkLaw t)
  ∧ (∀ (d : Nat) (s : State), s.attentive → ParkLaw s → s.control.parkTimer = some d →
    ∃ t, exec .parkTimerExpiry s = .next t
      ∧ (s.store.state ≠ .faulted →
          t.control.parkPending = true ∧ parkCarried t.store = true ∧ Left (s.advanceTo d) t)
      ∧ (s.store.state = .faulted →
          t.control.mode = .parked ∧ t.control.parkPending = false ∧ t.control.parkTimer = none
            ∧ t.arbiter = { s.arbiter with tickTimer := none } ∧ t.server.pageTimer = none
            ∧ t.notices = { s.notices with repeatTimer := none, lamp := false }
            ∧ t.link.participation = (if (s.link.participation = .joined
                  ∨ s.link.participation.lingers = true)
                ∧ s.link.transmitter.isSome = true ∧ s.link.state ≠ .busOff then .leaving else .apart)
            ∧ t.board = s.board ∧ t.table.marks = s.table.marks))

/-- RESTART_WAIT_TIMEOUT (R162, R186): the wait for the answer is over; once the RESTART trigger's outcome has
come too, the DEPOT RESTART is carried out, and a frame that may be in an attempt completes it. What is the
model's choice here: log entries 4, 24 and 34. -/
def Obligations.RestartWaitEndsInAReset : Prop :=
  ∀ (d : Nat) (w : RestartWait) (s : State), s.control.powered = true →
    s.control.restart = some w → w.timer = some d →
    ∃ t, exec .restartWaitTimeout s = .next t
      ∧ (w.outcome = true →
          AtReset t ∧ t.control.reason = .restart ∧ t.control.powered = true ∧ t.profile = s.profile
            ∧ t.link = (if (s.link.participation = .joined ∨ s.link.participation.lingers = true)
                ∧ s.link.transmitter.isSome = true ∧ s.link.state ≠ .busOff then s.link.completing else .reset)
            ∧ t.store.ring = s.store.ring ∧ t.inputs = s.inputs.reset)
      ∧ (w.outcome = false →
          t.control.restart = some { w with answered := true, timer := none }
            ∧ t.control.mode = s.control.mode)

/-! ## The retained store -/

/-- CHECKPOINT_SNAPSHOT (R44, R128, R129): a FREE arithmetic unit takes the snapshot, the slot it goes to is
invalid from then on; a unit that is taken keeps the snapshot step waiting. What is the model's choice here: log
entries 8 and 27. -/
def Obligations.SnapshotHoldsTheState : Prop :=
  ∀ (dt : Nat) (job : PortJob) (s : State), s.attentive → s.store.port = .snapshot job →
    snapshotAsked s.arbiter = false →
    ∃ t, exec (.checkpointSnapshot dt) s = .next t
      ∧ (s.arbiter.unit = .free →
          Left (((s.advance dt).setArbiter { s.arbiter with unit := .step .snapshot }).setStore
            { s.store with ring := s.store.ring.set s.store.nextSlot none }) t
          ∧ t.store.port = .checkpoint job
              { seq := s.store.nextSeq, kind := job.kind, partSeconds := s.control.partSeconds
                life := s.table.life, hire := s.table.hire, remainders := s.remainders
                marks := s.table.marks, hireState := s.hire.state, hireSerial := s.hire.serial
                header := if s.hire.state = .opened then s.hire.header else none
                closing := if s.hire.pendingMark then s.hire.buffer else none
                nextSeq := s.journal.nextSeq })
      ∧ (s.arbiter.unit ≠ .free →
          Left ((s.advance dt).setArbiter { s.arbiter with steps := s.arbiter.steps ++ [.snapshot] }) t
            ∧ t.store.port = .snapshot job)

/-- CHECKPOINT_WRITE_DONE for a verified write (R129, R130, R132, R133, R181): the checkpoint stands in its
slot, the next one takes the slot and sequence number after it; a park that waited for it is entered. What is
the model's choice here: log entries 26, 52, 54 and 55. -/
def Obligations.CheckpointWriteIsKept : Prop :=
  ∀ (dt : Nat) (job : PortJob) (x : Checkpoint) (s : State), s.attentive →
    s.store.port = .checkpoint job x →
    ∃ t, exec (.checkpointWriteDone dt true) s = .next t
      ∧ t.store.ring = s.store.ring.set s.store.nextSlot (some x)
      ∧ t.store.nextSlot = s.store.nextSlot + 1
      ∧ t.store.nextSeq = min ceiling (s.store.nextSeq + 1)
      ∧ t.store.failedJobs = 0 ∧ t.store.failureCount = s.store.failureCount
      ∧ t.store.state = s.store.state
      ∧ t.store.finalAttempted =
          (if job.final then decide (s.store.state ≠ .normal) else s.store.finalAttempted)
      ∧ (job.final = true → s.store.state = .normal → checkpointAsked t.store = true)
      ∧ (if job.forPark = true ∧ s.control.parkPending = true then t.control.mode = .parked
         else Left ((s.advance dt).setStore { s.store with
            ring := t.store.ring, nextSlot := t.store.nextSlot, nextSeq := t.store.nextSeq
            finalAttempted := t.store.finalAttempted }) t)

/-- CHECKPOINT_WRITE_DONE, HIRE_RECORD_WRITE_DONE and JOURNAL_ENTRY_WRITE_DONE for a write that is not verified
(R44, R102, R103, R117, R129 to R131): the slot is invalid, the failure is counted and has its STORE FAULT
entry, and the second consecutive one makes the store FAULTED with source 7's condition. A closing whose own
record failed, or whose waiting job a FAULTED store discards, keeps its record with the store fault flag and
ends with STORE FAULT; while a pass runs, the hire state and the deferred answer stay, and that end waits. What
is the model's choice here: log entries 26 and 41. -/
def Obligations.FailedWritesAreCounted : Prop :=
  ∀ (dt : Nat) (c : Instr) (kind : Nat) (s : State), s.attentive →
    ((∃ job x, s.store.port = .checkpoint job x ∧ c = .checkpointWriteDone dt false
        ∧ kind = (if job.final then 1 else 4))
      ∨ (∃ i x, s.store.port = .hireRecord i x ∧ c = .hireRecordWriteDone dt false ∧ kind = 2)
      ∨ (∃ i e, s.store.port = .journalEntry i e ∧ c = .journalEntryWriteDone dt false ∧ kind = 3)) →
    ∃ t, exec c s = .next t
      ∧ t.store.failureCount = capAdd 65535 s.store.failureCount 1
      ∧ (s.store.state ≠ .faulted →
          t.store.state = (if 1 ≤ s.store.failedJobs then .faulted else s.store.state))
      ∧ (1 ≤ s.store.failedJobs → t.notices.conditions[7] = true)
      ∧ Created (s.makeEntry .storeFault none kind (min 2 (s.store.failedJobs + 1))) s t
      ∧ (∀ job x, s.store.port = .checkpoint job x →
          t.store.ring = s.store.ring.set s.store.nextSlot none
            ∧ t.store.nextSlot = s.store.nextSlot + 1)
      ∧ (∀ i x, s.store.port = .hireRecord i x → t.store.history[i] = none)
      ∧ (∀ i e, s.store.port = .journalEntry i e → t.store.journal[i] = none)
      ∧ (∀ r, s.hire.buffer = some r → s.hire.pendingMark = true → s.hire.state = .closing →
          s.hire.ending = none →
          ((∃ i x, s.store.port = .hireRecord i x ∧ r.serial = x.record.serial
              ∧ r.closedSeconds = x.record.closedSeconds)
            ∨ (1 ≤ s.store.failedJobs ∧ s.store.waitHire = true)) →
          t.hire.buffer = some { r with storeFault := true } ∧ t.hire.pendingMark = true
            ∧ (s.arbiter.unit ≠ .pass →
                t.hire.state = .noHire ∧ t.hire.deferred = none
                  ∧ (∀ a, s.hire.deferred = some a →
                      Owed (hireAnswer s 2 a.token (toLittle 4 a.number) .storeFault) t))
            ∧ (s.arbiter.unit = .pass →
                t.hire.state = .closing ∧ t.hire.deferred = s.hire.deferred ∧ t.hire.ending = some .failed))
      ∧ t.remainders = s.remainders ∧ t.board = s.board ∧ t.inputs = s.inputs
      ∧ (∀ n : Fin 47, n ≠ 46 → t.table.life[n] = s.table.life[n] ∧ t.table.hire[n] = s.table.hire[n])

/-- HIRE_RECORD_WRITE_DONE for a verified write (R44, R82, R100, R101, R103): the record is in the history;
where it is the closing buffer's, the buffer is emptied, and a closing ends with the deferred answer DONE; while
a pass runs, the hire state and the deferred answer stay, and the end of the closing waits. What is the model's
choice here: log entries 26, 40 and 41. -/
def Obligations.HireRecordWriteEndsTheClosing : Prop :=
  ∀ (dt : Nat) (i : Fin 8) (x : RetainedHire) (s : State), s.attentive →
    s.store.port = .hireRecord i x → s.store.waitHire = false →
    ∃ t, exec (.hireRecordWriteDone dt true) s = .next t
      ∧ t.store.history = s.store.history.set i (some x)
      ∧ t.store.failedJobs = 0 ∧ t.store.state = s.store.state
      ∧ (∀ r, s.hire.buffer = some r → s.hire.pendingMark = true → r.serial = x.record.serial →
          r.closedSeconds = x.record.closedSeconds →
          (s.hire.state = .closing → s.hire.ending = none → s.arbiter.unit ≠ .pass →
            Left (((s.advance dt).setStore { s.store with history := t.store.history }).setHire { s.hire with
                buffer := none, pendingMark := false, state := .noHire, deferred := none }) t
              ∧ (∀ a, s.hire.deferred = some a →
                  Owed (hireAnswer s 2 a.token (toLittle 4 a.number) .done) t))
          ∧ (s.hire.state = .closing → s.hire.ending = none → s.arbiter.unit = .pass →
            Left (((s.advance dt).setStore { s.store with history := t.store.history }).setHire { s.hire with
                buffer := none, pendingMark := false, ending := some .written }) t)
          ∧ (s.hire.state ≠ .closing ∨ s.hire.ending ≠ none →
            Left (((s.advance dt).setStore { s.store with history := t.store.history }).setHire { s.hire with
                buffer := none, pendingMark := false }) t))
      ∧ (s.hire.pendingMark = false →
          Left ((s.advance dt).setStore { s.store with history := t.store.history }) t)

/-- JOURNAL_ENTRY_WRITE_DONE for a verified write (R115, R126): the entry is in the table and no longer staged;
its slot is not taken again at once while another slot is free. What is the model's choice here: log entry 26.
-/
def Obligations.JournalEntryLeavesStaging : Prop :=
  ∀ (dt : Nat) (i : Fin 256) (e : Entry) (s : State), s.attentive →
    s.store.port = .journalEntry i e →
    ∃ t, exec (.journalEntryWriteDone dt true) s = .next t
      ∧ Left (((s.advance dt).setJournal { s.journal with
            staging := s.journal.staging.filter fun x => x.seq != e.seq }).setStore
          { s.store with journal := s.store.journal.set i (some e) }) t
      ∧ ((∃ j : Fin 256, j ≠ i ∧ s.store.journal[j] = none) → t.store.journal[i] = some e)

/-- STREAM_ITEM_READ (R126, R127, R172, R175): a journal entry that verifies gives three frames to the stream, a
hire record that is still the one looked up thirty; a slot that does not verify is invalid from then on. What is
the model's choice here: log entry 26. -/
def Obligations.ReadItemGoesToTheStream : Prop :=
  (∀ (dt : Nat) (i : Fin 256) (e : Entry) (r : RunningStream) (s : State), s.attentive → s.queuesSorted →
    s.store.port = .journalRead i true → s.stream.running = some r → r.waiting = [] →
    (s.store.journal[i] = some e →
      ∃ t, exec (.streamItemRead dt true) s = .next t
        ∧ streamFrames t = streamFrames s
            ++ cutItem s.stream.tag (.lastOfEntry e.seq) 3 r.frames (entryBytes e)
        ∧ (∃ r', t.stream.running = some r' ∧ r'.handed = r.handed + 1 ∧ r'.previous = some e.seq)
        ∧ Left (s.advance dt) t)
    ∧ (∃ t, exec (.streamItemRead dt false) s = .next t ∧ t.store.journal[i] = none
        ∧ Left ((s.advance dt).setStore { s.store with journal := s.store.journal.set i none }) t))
  ∧ (∀ (dt : Nat) (i : Fin 8) (x : RetainedHire) (r : RunningStream) (s : State), s.attentive → s.queuesSorted →
    s.store.port = .hireRead i true → s.stream.running = some r → r.waiting = [] →
    r.kind = .hire (.retained i x.record.number x.record.serial x.record.closedSeconds) →
    s.store.history[i] = some x →
      (∃ t, exec (.streamItemRead dt true) s = .next t
        ∧ streamFrames t = streamFrames s
            ++ cutItem s.stream.tag .lastOfHire 30 r.frames (hireBytes s.free 0 x.record)
        ∧ Left (s.advance dt) t)
      ∧ (∃ t, exec (.streamItemRead dt false) s = .next t ∧ t.stream.running = none
        ∧ t.store.history[i] = none
        ∧ Owed (streamEnd s r.token .notFound s.stream.tag true r.sent r.lastSent) t
        ∧ Left ((s.advance dt).setStore { s.store with history := s.store.history.set i none }) t))

/-! ## The request server -/

/-- STATUS (R166, section 13.2): two answer frames, the bytes that the layout assigns, and no other effect. What
is the model's choice here: log entries 1 and 53. -/
def Obligations.StatusIsAnswered : Prop :=
  ∀ (dt : Nat) (r : Request) (rest : List Request) (s : State), Serves .status r rest s →
    ∃ t, exec (.status dt) s = .next t ∧ ∃ f g, AnsweredAlone [f, g] dt rest s t
      ∧ f.offset = 0x30 ∧ g.offset = 0x30 ∧ f.data.length = 8
      ∧ f.data[0]? = some 1 ∧ f.data[1]? = some (BitVec.ofNat 8 (byteAt r.data 1))
      ∧ f.data[2]? = some (BitVec.ofNat 8 (16 * s.journal.staging.length))
      ∧ bitOf (byteAt f.data 3) 0 = (s.control.mode == .attend)
      ∧ bitsOf (byteAt f.data 3) 1 2 = hireStateCode s.hire.state
      ∧ bitOf (byteAt f.data 3) 3 = s.hire.pendingMark
      ∧ bitsOf (byteAt f.data 3) 4 2 = profileStateCode s.control.profileState
      ∧ bitOf (byteAt f.data 3) 6 = (s.link.state == .errorPassive)
      ∧ bitOf (byteAt f.data 3) 7 = s.link.warning
      ∧ bitsOf (byteAt f.data 4) 0 2 = storeStateCode s.store.state
      ∧ bitOf (byteAt f.data 4) 2 = s.store.waitFinal.isSome
      ∧ bitOf (byteAt f.data 4) 3 = s.store.waitHire
      ∧ bitOf (byteAt f.data 4) 4 = s.store.waitJournal
      ∧ bitOf (byteAt f.data 4) 5 = s.store.waitCheckpoint.isSome
      ∧ bitOf (byteAt f.data 4) 6 = s.stream.running.isSome
      ∧ bitOf (byteAt f.data 4) 7 = s.stream.continuation.isSome
      ∧ bitOf (byteAt f.data 5) 0 = s.server.holdTimer.isSome
      ∧ littleAt f.data 6 2 = s.store.failureCount % 65536
      ∧ g.data.length = 8
      ∧ littleAt g.data 0 2 = s.profile.unitSerial % 65536
      ∧ littleAt g.data 2 2 = s.intake.refusals % 65536
      ∧ littleAt g.data 4 2 = s.intake.overruns % 65536
      ∧ littleAt g.data 6 2 = s.link.busOffCount % 65536

/-- READ_COUNTER (R93, R164, R167): the refusals in their order, else the value of the counter or mark, once the
arithmetic unit is there for it. What is the model's choice here: log entries 8 and 13. -/
def Obligations.ReadCounterIsAnswered : Prop :=
  ∀ (dt : Nat) (r : Request) (rest : List Request) (scope number : Nat) (s : State),
    Serves .readCounter r rest s → scope = byteAt r.data 2 → number = byteAt r.data 3 →
    (r.length < 4 ∨ 2 < scope ∨ (scope = 2 ∧ 4 < number) ∨ (scope ≠ 2 ∧ 46 < number)
        ∨ (scope = 1 ∧ number = 45) →
      ∃ t, exec (.readCounter dt) s = .next t
        ∧ AnsweredAlone [plainAnswer 2 (byteAt r.data 1) .outOfRange] dt rest s t)
    ∧ (4 ≤ r.length → scope = 1 → number ≤ 46 → number ≠ 45 → s.hire.state ≠ .opened →
      ∃ t, exec (.readCounter dt) s = .next t
        ∧ AnsweredAlone [plainAnswer 2 (byteAt r.data 1) .noHire] dt rest s t)
    ∧ (4 ≤ r.length → s.arbiter.unit = .free → ∀ (value : Nat) (full : Bool),
      ((∃ n : Fin 47, scope = 0 ∧ number = n.val ∧ value = s.table.life[n]
          ∧ full = decide (ceiling ≤ value))
        ∨ (∃ n : Fin 47, scope = 1 ∧ number = n.val ∧ n ≠ 45 ∧ s.hire.state = .opened
          ∧ value = s.table.hire[n] ∧ full = decide (ceiling ≤ value))
        ∨ (∃ m : Fin 5, scope = 2 ∧ number = m.val ∧ value = min ceiling s.table.marks[m]
          ∧ full = decide (ceiling < s.table.marks[m]))) →
      ∃ t, exec (.readCounter dt) s = .next t ∧ ∃ f,
          Left (s.inStep dt [f]) t ∧ f.offset = 0x30 ∧ f.data.length = 8
        ∧ f.data[0]? = some 2 ∧ f.data[1]? = some (BitVec.ofNat 8 (byteAt r.data 1))
        ∧ bitsOf (byteAt f.data 2) 0 4 = 0 ∧ bitOf (byteAt f.data 2) 4 = full
        ∧ f.data[3]? = some (BitVec.ofNat 8 (number + 64 * scope))
        ∧ littleAt f.data 4 4 = value % 4294967296)

/-- READ_SOURCE (R164, R168): OUT OF RANGE, NOT FOUND for an entry that is not valid, or the two frames with the
origin, the slot state and the health counts of the entry. What is the model's choice here: log entries 13, 14
and 46. -/
def Obligations.ReadSourceIsAnswered : Prop :=
  ∀ (dt : Nat) (r : Request) (rest : List Request) (s : State), Serves .readSource r rest s →
    (r.length < 3 ∨ 16 ≤ byteAt r.data 2 →
      ∃ t, exec (.readSource dt) s = .next t
        ∧ AnsweredAlone [plainAnswer 3 (byteAt r.data 1) .outOfRange] dt rest s t)
    ∧ (3 ≤ r.length → ∀ i : Fin 16, byteAt r.data 2 = i.val →
      (s.profile.entries[i].valid = false →
        ∃ t, exec (.readSource dt) s = .next t
          ∧ AnsweredAlone [plainAnswer 3 (byteAt r.data 1) .notFound] dt rest s t)
      ∧ (s.profile.entries[i].valid = true → s.profile.entries[i].reject = false →
        ∀ sig, Signal.ofCode s.profile.entries[i].signalCode = some sig →
        ∀ o, o = (s.slot sig).origin (if s.profile.entries[i].alternate then .alternate else .primary) →
        ∃ t, exec (.readSource dt) s = .next t ∧ ∃ f g, AnsweredAlone [f, g] dt rest s t
          ∧ f.data[0]? = some 3 ∧ f.data[1]? = some (BitVec.ofNat 8 (byteAt r.data 1))
          ∧ f.data[2]? = some (BitVec.ofNat 8 (16 * sig.code.val))
          ∧ f.data[3]? = some (BitVec.ofNat 8 (flagAt s.profile.entries[i].alternate 1
              + flagAt o.fresh 2 + flagAt o.value.isSome 3 + flagAt (o.value == some .unknown) 4
              + 32 * slotStateCode (s.slot sig).state))
          ∧ (∀ v, o.value = some (.num v) → littleAt f.data 4 4 = (v % 4294967296).toNat)
          ∧ littleAt g.data 0 2 = s.intake.health[i].applied % 65536
          ∧ littleAt g.data 2 2 = s.intake.health[i].short % 65536
          ∧ littleAt g.data 4 2 = s.intake.health[i].notAvailable % 65536
          ∧ littleAt g.data 6 2 = s.intake.health[i].clamped % 65536)
      ∧ (s.profile.entries[i].valid = true → s.profile.entries[i].reject = true →
        ∃ t, exec (.readSource dt) s = .next t ∧ ∃ f g, AnsweredAlone [f, g] dt rest s t
          ∧ f.data[0]? = some 3 ∧ f.data[1]? = some (BitVec.ofNat 8 (byteAt r.data 1))
          ∧ f.data[2]? = some (BitVec.ofNat 8 (16 * s.profile.entries[i].signalCode))
          ∧ f.data[3]? = some (BitVec.ofNat 8 (1 + flagAt s.profile.entries[i].alternate 1))
          ∧ g.data = List.replicate 8 0))

/-- READ_JOURNAL (R164, R170, R171, R174): the refusals, the continuation slot, and the start of a journal
stream with the tag inverted. What is the model's choice here: log entry 13. -/
def Obligations.ReadJournalStartsAStream : Prop :=
  ∀ (dt start count : Nat) (r : Request) (rest : List Request) (s : State),
    Serves .readJournal r rest s → start = littleAt r.data 2 4 → count = byteAt r.data 6 →
    (∀ result,
      ((result = .outOfRange ∧ (r.length < 7 ∨ count = 0))
        ∨ (result = .linkLost ∧ 7 ≤ r.length ∧ count ≠ 0 ∧ s.stream.running = none
            ∧ s.link.state = .busOff)
        ∨ (result = .notFound ∧ 7 ≤ r.length ∧ count ≠ 0 ∧ s.stream.running = none
            ∧ s.link.state ≠ .busOff
            ∧ ∀ (i : Fin 256) (e : Entry), s.store.journal[i] = some e → e.seq < start)
        ∨ (result = .busy ∧ 7 ≤ r.length ∧ count ≠ 0 ∧ ∃ x, s.stream.running = some x
            ∧ (x.kind.isHire = true ∨ s.stream.continuation ≠ none))) →
      ∃ t, exec (.readJournal dt) s = .next t
        ∧ AnsweredAlone [plainAnswer 4 (byteAt r.data 1) result] dt rest s t)
    ∧ (∀ x, s.stream.running = some x → 7 ≤ r.length → count ≠ 0 → x.kind.isHire = false →
        x.noMore = false → s.stream.continuation = none →
      ∃ t, exec (.readJournal dt) s = .next t
        ∧ AnsweredAlone [plainAnswer 4 (byteAt r.data 1) .queued] dt rest s t
        ∧ t.stream.continuation = some { token := byteAt r.data 1, start := start, count := count })
    ∧ (7 ≤ r.length → count ≠ 0 → s.stream.running = none → s.link.state ≠ .busOff →
        (∃ (i : Fin 256) (e : Entry), s.store.journal[i] = some e ∧ start ≤ e.seq
          ∧ e.seq < start + 65536) →
      ∃ t, exec (.readJournal dt) s = .next t ∧ Left (s.served dt rest) t
        ∧ t.control.parkPending = false ∧ t.stream.tag = !s.stream.tag
        ∧ t.stream.running = some {
            kind := .journal start count, token := byteAt r.data 1, sent := 0, frames := 0, handed := 0
            previous := none, lastSent := none, waiting := [], noMore := false })

/-- READ_HIRE (R105, R164, R170, R171): the refusals, and the start of a hire stream for the record of the
lookup table: the live hire, the closing buffer's pending record, or the newest history record, of the number
asked for. What is the model's choice here: log entries 8 and 13. -/
def Obligations.ReadHireStartsAStream : Prop :=
  ∀ (dt : Nat) (r : Request) (rest : List Request) (s : State), Serves .readHire r rest s →
    (∀ result,
      ((result = .outOfRange ∧ r.length < 6)
        ∨ (result = .busy ∧ 6 ≤ r.length ∧ s.stream.running ≠ none)
        ∨ (result = .linkLost ∧ 6 ≤ r.length ∧ s.stream.running = none ∧ s.link.state = .busOff)
        ∨ (result = .notFound ∧ 6 ≤ r.length ∧ s.stream.running = none ∧ s.link.state ≠ .busOff
            ∧ LookedUp (littleAt r.data 2 4) s none)) →
      ∃ t, exec (.readHire dt) s = .next t
        ∧ AnsweredAlone [plainAnswer 5 (byteAt r.data 1) result] dt rest s t)
    ∧ (∀ choice, LookedUp (littleAt r.data 2 4) s (some choice) → 6 ≤ r.length →
        s.stream.running = none → s.link.state ≠ .busOff →
        (s.arbiter.unit = .free ∨ littleAt r.data 2 4 ≠ 0 ∨ s.hire.state ≠ .opened) →
      ∃ t, exec (.readHire dt) s = .next t ∧ ∃ x, t.stream.running = some x ∧ x.kind = .hire choice
        ∧ x.token = byteAt r.data 1 ∧ x.sent = 0 ∧ t.stream.tag = !s.stream.tag
        ∧ t.control.parkPending = false
        ∧ (∀ h, choice = .live h → Left (s.inStep dt []) t ∧ streamFrames t = streamFrames s
            ++ cutItem (!s.stream.tag) .lastOfHire 30 0 (hireBytes s.free 2 h))
        ∧ ((∀ h, choice ≠ .live h) → Left (s.served dt rest) t)
        ∧ (∀ b, s.hire.buffer = some b → choice = .unwritten b.serial b.closedSeconds →
            streamFrames t = streamFrames s
              ++ cutItem (!s.stream.tag) .lastOfHire 30 0 (hireBytes s.free 1 b)))

/-- SERVICE_DONE (R92, R164, R169): the refusals; else the member's mark is set to its index, its due state and
condition are cleared, the entry is created and an EVENT checkpoint is asked for. What is the model's choice
here: log entries 1, 8 and 13. -/
def Obligations.ServiceDoneSetsTheMark : Prop :=
  ∀ (dt : Nat) (r : Request) (rest : List Request) (s : State), Serves .serviceDone r rest s →
    (r.length < 3 ∨ 4 < byteAt r.data 2 →
      ∃ t, exec (.serviceDone dt) s = .next t
        ∧ AnsweredAlone [serviceAnswer s (byteAt r.data 1) (memberByte s.free r) .outOfRange] dt rest s t)
    ∧ (3 ≤ r.length → byteAt r.data 2 ≤ 4 → s.hire.state = .opened →
      ∃ t, exec (.serviceDone dt) s = .next t
        ∧ AnsweredAlone [serviceAnswer s (byteAt r.data 1) (BitVec.ofNat 8 (byteAt r.data 2)) .hireOpen]
            dt rest s t)
    ∧ (3 ≤ r.length → s.hire.state ≠ .opened → s.arbiter.unit = .free →
        ∀ m : Fin 5, byteAt r.data 2 = m.val →
      ∃ t, exec (.serviceDone dt) s = .next t
        ∧ t.table.marks = s.table.marks.set m (wearIndex s.table.life m)
        ∧ t.table.due = s.table.due.set m false
        ∧ t.notices.conditions[(⟨9 + m.val, by omega⟩ : Fin 14)] = false
        ∧ Created (s.makeEntry .serviceDone (some m.val) (wearFraction s.profile.limits s.table m)
            (if s.table.due[m] then 1 else 0)) s t
        ∧ (s.store.state ≠ .faulted → checkpointAsked t.store = true)
        ∧ t.server.built = [serviceAnswer s (byteAt r.data 1) (BitVec.ofNat 8 m.val) .done]
        ∧ t.server.requests = s.server.requests ∧ t.arbiter = { s.arbiter with unit := .step .request }
        ∧ (∀ n : Fin 47, n ≠ 46 → t.table.life[n] = s.table.life[n] ∧ t.table.hire[n] = s.table.hire[n])
        ∧ t.remainders = s.remainders ∧ t.board = s.board ∧ t.link.account = s.link.account)

/-- ABORT_STREAM (R173): with a stream in progress, DONE and the STREAM END with ABORTED, and engine and
continuation slot are empty; else NOT FOUND. What is the model's choice here: log entries 13, 14 and 33. -/
def Obligations.AbortEndsTheStream : Prop :=
  ∀ (dt : Nat) (r : Request) (rest : List Request) (s : State), Serves .abortStream r rest s →
    (s.stream.running = none →
      ∃ t, exec (.abortStream dt) s = .next t
        ∧ AnsweredAlone [plainAnswer 7 (byteAt r.data 1) .notFound] dt rest s t)
    ∧ (∀ x, s.stream.running = some x →
      ∃ t, exec (.abortStream dt) s = .next t
        ∧ AnsweredAlone [plainAnswer 7 (byteAt r.data 1) .done,
            streamEnd s x.token .aborted s.stream.tag x.kind.isHire x.sent x.lastSent] dt rest s t
        ∧ t.stream.running = none ∧ t.stream.continuation = none ∧ t.link.stream = none
        ∧ t.store.readPending = none)

/-- RESTART (R125, R186): the answer is placed, the restart flag is set with a wait of 200 ms, and the RESTART
trigger is handed to the store, whose FAULTED state is its outcome at once. What is the model's choice here: log
entries 7 and 29. -/
def Obligations.RestartAsksForACheckpoint : Prop :=
  ∀ (dt : Nat) (r : Request) (rest : List Request) (s : State), Serves .restart r rest s →
    ∃ t, exec (.restart dt) s = .next t
      ∧ t.control.restart = some { outcome := s.store.state == .faulted, answered := false
                                   timer := some (s.clock.now + dt + 200000) }
      ∧ Placed [{ plainAnswer 8 (byteAt r.data 1) .done with kind := .restartAnswer }] s t
      ∧ (s.store.state ≠ .faulted → restartCarried t.store = true)
      ∧ Left ((s.served dt rest).setControl t.control) t
      ∧ t.control.mode = s.control.mode ∧ t.control.partSeconds = s.control.partSeconds

/-- UNKNOWN_REQUEST, HIRE_CONTROL_UNKNOWN, SHORT_FRAME_DISCARD and HOLD (R164, R169, R176, R188): UNKNOWN
REQUEST with the kind or operation echoed, OUT OF RANGE for a HIRE CONTROL frame below six bytes, a discarded
frame, and the HOLD timer loaded or stopped. What is the model's choice here: log entries 13, 15, 45 and 56. -/
def Obligations.PlainRequestsAreServed : Prop :=
  ∀ (dt : Nat) (r : Request) (rest : List Request) (s : State),
    (Serves .unknown r rest s →
      ∃ t, exec (.unknownRequest dt) s = .next t
        ∧ AnsweredAlone [plainAnswer (byteAt r.data 0) (byteAt r.data 1) .unknownRequest] dt rest s t)
    ∧ (Serves .hireUnknown r rest s →
      ∃ t, exec (.hireControlUnknown dt) s = .next t
        ∧ AnsweredAlone [hireAnswer s (byteAt r.data 0) (byteAt r.data 1) (hireNumberBytes s.free r)
            (if r.length < 6 then .outOfRange else .unknownRequest)] dt rest s t)
    ∧ (Serves .short r rest s →
      ∃ t, exec (.shortFrameDiscard dt) s = .next t ∧ AnsweredAlone [] dt rest s t)
    ∧ (Serves .hold r rest s →
      ∃ t, exec (.hold dt) s = .next t
        ∧ Left ((s.served dt rest).setServer { s.server with
            requests := rest, built := []
            holdTimer := if r.length < 2 then s.server.holdTimer
              else if littleAt r.data 0 2 = 0 then none
              else some (s.clock.now + dt + littleAt r.data 0 2 * 10000) }) t)

/-- SUMMARY_PAGE_REQUEST and PAGE_TIMER_EXPIRY (R177, R178): two answer frames with the page asked for; or the
next cyclic page, and the page timer loaded again while the part is awake. Each page shows what the page tables
assign to it: two counts, the open hire, the wear fractions and due flags, or part seconds and the start
machine. What is the model's choice here: log entries 4, 8 and 30. -/
def Obligations.SummaryPagesAreBuilt : Prop :=
  (∀ (dt n : Nat) (r : Request) (rest : List Request) (s : State), Serves .page r rest s →
    r.frame = .page n → s.arbiter.unit = .free →
    ∃ t, exec (.summaryPageRequest dt) s = .next t ∧ ∃ f g,
      Left (s.inStep dt [f, g]) t ∧ f.offset = 0x30 ∧ f.data.length = 8
      ∧ f.data[0]? = some 0x30 ∧ f.data[1]? = some (BitVec.ofNat 8 n)
      ∧ bitsOf (byteAt f.data 2) 0 4 = 0
      ∧ g.offset = 0x30 ∧ PageShows s n g.data)
  ∧ (∀ (d : Nat) (s : State), s.attentive → s.server.pageTimer = some d → s.arbiter.unit = .free →
    ∃ t, exec .pageTimerExpiry s = .next t
      ∧ Left (((s.advanceTo d).setArbiter { s.arbiter with unit := .step .page }).setServer
          { s.server with
            nextPage := (s.server.nextPage + 1) % 8
            pageTimer := if s.awake then some (max s.clock.now d
                + s.profile.summaryPeriod * 125000 * (if 0 < s.link.pacing then 2 else 1)) else none }) t
      ∧ ∃ l, PageShows s s.server.nextPage l
          ∧ PageOffered { offset := 0x40 + s.server.nextPage, kind := .summary, data := l } t)

/-! ## Hire control -/

/-- CHECK_OUT (R96, R97, R164, R169): the answers by state, and the opening of a hire, with the hire scope at
zero and the HIRE OPENED entry. What is the model's choice here: log entries 8 and 13. -/
def Obligations.CheckOutOpensAHire : Prop :=
  ∀ (dt number : Nat) (r : Request) (rest : List Request) (s : State),
    Serves .checkOut r rest s → number = littleAt r.data 2 4 →
    (∀ result,
      ((result = .outOfRange ∧ (r.length < 6 ∨ number = 0))
        ∨ (result = .busy ∧ 6 ≤ r.length ∧ number ≠ 0 ∧ s.hire.state = .closing)
        ∨ (result = .done ∧ 6 ≤ r.length ∧ number ≠ 0 ∧ s.hire.state = .opened
            ∧ ∃ h, s.hire.header = some h ∧ h.number = number)
        ∨ (result = .hireOpen ∧ 6 ≤ r.length ∧ number ≠ 0 ∧ s.hire.state = .opened
            ∧ ∃ h, s.hire.header = some h ∧ h.number ≠ number)) →
      ∃ t, exec (.checkOut dt) s = .next t
        ∧ AnsweredAlone [hireAnswer s 1 (byteAt r.data 1) (hireNumberBytes s.free r) result] dt rest s t)
    ∧ (6 ≤ r.length → number ≠ 0 → s.hire.state = .noHire → s.arbiter.unit = .free →
      ∀ serial, serial = (s.hire.serial + 1) % 65536 →
      ∀ h : HireHeader, h = {
          number := number, serial := serial, openedSeconds := s.control.partSeconds
          openedCalendar := s.calendarNow, storeFault := s.store.state == .faulted
          journalDrop := false } →
      ∃ t, exec (.checkOut dt) s = .next t
        ∧ t.hire.withoutHeader =
            { s.hire with state := .opened, serial := serial, header := none }
        ∧ headerKept (some h) t.hire.header
        ∧ (∀ n : Fin 47, n ≠ 46 → t.table.life[n] = s.table.life[n] ∧ t.table.hire[n] = 0)
        ∧ Created { s.makeEntry .hireOpened none (if s.hire.pendingMark then 1 else 0) 0 with
            hire := some { number := number, serial := serial } } s t
        ∧ t.server.built = [hireAnswer s 1 (byteAt r.data 1) (hireNumberBytes s.free r) .done]
        ∧ t.server.requests = s.server.requests ∧ t.arbiter = { s.arbiter with unit := .step .request }
        ∧ (s.store.state ≠ .faulted → checkpointAsked t.store = true)
        ∧ t.table.marks = s.table.marks ∧ t.remainders = s.remainders ∧ t.notices = s.notices)

/-- CHECK_IN (R98, R99, R102, R125, R164, R169): the answers by state, and the closing of the open hire: the
record in the closing buffer, the hire scope at zero; a FAULTED store ends the closing at once with STORE FAULT.
What is the model's choice here: log entries 8, 13, 40 and 48. -/
def Obligations.CheckInClosesTheHire : Prop :=
  ∀ (dt number : Nat) (r : Request) (rest : List Request) (s : State),
    Serves .checkIn r rest s → number = littleAt r.data 2 4 →
    (∀ result,
      ((result = .outOfRange ∧ (r.length < 6 ∨ number = 0))
        ∨ (result = .noHire ∧ 6 ≤ r.length ∧ number ≠ 0 ∧ s.hire.state = .noHire)
        ∨ (result = .busy ∧ 6 ≤ r.length ∧ number ≠ 0 ∧ s.hire.state = .closing)
        ∨ (result = .wrongHire ∧ 6 ≤ r.length ∧ number ≠ 0 ∧ s.hire.state = .opened
            ∧ ∃ h, s.hire.header = some h ∧ h.number ≠ number)) →
      ∃ t, exec (.checkIn dt) s = .next t
        ∧ AnsweredAlone [hireAnswer s 2 (byteAt r.data 1) (hireNumberBytes s.free r) result] dt rest s t)
    ∧ (∀ h, s.hire.header = some h → 6 ≤ r.length → number ≠ 0 → s.hire.state = .opened →
        h.number = number → s.arbiter.unit = .free →
      ∃ t, exec (.checkIn dt) s = .next t ∧ ∃ b, t.hire.buffer = some b
        ∧ t.hire.header = none ∧ t.hire.pendingMark = true ∧ t.hire.serial = s.hire.serial
        ∧ b.number = number ∧ b.serial = h.serial ∧ b.openedSeconds = h.openedSeconds
        ∧ b.openedCalendar = h.openedCalendar ∧ b.closedSeconds = s.control.partSeconds
        ∧ b.closedCalendar = s.calendarNow
        ∧ (∀ n : Fin 47, n ≠ 46 → b.counts[n] = s.table.hire[n] ∧ t.table.hire[n] = 0
            ∧ t.table.life[n] = s.table.life[n])
        ∧ b.storeFault = (h.storeFault || s.hire.pendingMark || s.store.state == .faulted)
        ∧ Created (s.makeEntry .hireClosed none (s.table.hire[9] / 36000)
            ((if h.storeFault then 1 else 0) + (if h.journalDrop then 2 else 0))) s t
        ∧ (s.store.state ≠ .faulted →
            t.hire.state = .closing
              ∧ t.hire.deferred = some { token := byteAt r.data 1, number := number }
              ∧ (t.store.waitHire = true ∨ t.store.port.record = some b))
        ∧ (s.store.state = .faulted →
            t.hire.state = .noHire ∧ t.hire.deferred = none
              ∧ Owed (hireAnswer s 2 (byteAt r.data 1) (toLittle 4 number) .storeFault) t)
        ∧ t.server.built = [] ∧ t.server.requests = s.server.requests
        ∧ t.arbiter = { s.arbiter with unit := .step .request }
        ∧ t.table.marks = s.table.marks ∧ t.remainders = s.remainders ∧ t.notices = s.notices)

/-! ## The notice arbiter -/

/-- PULSE_TIMER_EXPIRY, DWELL_EXPIRY and NOTICE_REPEAT_EXPIRY (R141, R143 to R145, R147, R148): the pulse
source's condition is cleared; the presented notice changes, by the choice of R143, where the dwell is over or
ends now; a NOTICE frame is repeated. What is the model's choice here: log entry 4. -/
def Obligations.NoticeTimersMakeTheChoice : Prop :=
  (∀ (src : PulseSource) (d : Nat) (s : State), s.attentive → s.control.mode ≠ .starting →
      pulseTimer s.notices src = some d →
      ∃ t, exec (.pulseTimerExpiry src) s = .next t
        ∧ t.notices.conditions = s.notices.conditions.set (pulseNumber src) false
        ∧ pulseTimer t.notices src = none
        ∧ (∀ k, k ≠ src → pulseTimer t.notices k = pulseTimer s.notices k)
        ∧ (if s.notices.conditions[pulseNumber src] = true
              ∧ s.notices.presented = some (pulseNumber src) ∧ s.notices.dwell = none then
            Chosen s.profile t.notices.conditions t.notices.presented
           else t.notices.presented = s.notices.presented ∧ t.notices.dwell = s.notices.dwell
              ∧ t.notices.repeatTimer = s.notices.repeatTimer ∧ t.notices.lamp = s.notices.lamp)
        ∧ Left ((s.advanceTo d).setNotices t.notices) t)
  ∧ (∀ (d : Nat) (n : Fin 14) (s : State), s.attentive → s.notices.dwell = some d →
    s.notices.presented = some n →
    ∃ t, exec .dwellExpiry s = .next t
      ∧ t.notices.conditions = s.notices.conditions
      ∧ (if s.notices.conditions[n] = false
            ∨ (∃ m : Fin 14, eligible s.profile s.notices.conditions m = true
                ∧ levelOf s.profile n < levelOf s.profile m) then
          Chosen s.profile s.notices.conditions t.notices.presented
            ∧ t.notices.dwell = (if t.notices.presented.isSome
                then some (max s.clock.now d + 8000000) else none)
            ∧ t.notices.lamp = (s.awake && lampFor s.profile t.notices.presented)
            ∧ (t.notices.presented ≠ s.notices.presented → s.awake = true →
                NoticeOffered (noticeFrame (t.setFree s.free)) t)
         else t.notices = { s.notices with dwell := none })
      ∧ Left ((s.advanceTo d).setNotices t.notices) t)
  ∧ (∀ (d : Nat) (s : State), s.attentive → s.notices.repeatTimer = some d →
    ∃ t, exec .noticeRepeatExpiry s = .next t
      ∧ Left ((s.advanceTo d).setNotices { s.notices with
          repeatTimer := some (max s.clock.now d
            + (if s.notices.presented.isSome then 1000000 else 10000000)) }) t
      ∧ NoticeOffered (noticeFrame s) t)
end

