-- ==== Sys2Proof/Laws/State.lean ====
section
/-! SUPPORT. One lemma per field per update of the state: replacing one block leaves every other block
as it was.  No later proof unfolds a record update. -/

namespace Sys2Proof.Machine

section
variable (s : State)

@[simp] theorem State.setClock_clock (x : Clock) : (s.setClock x).clock = x := rfl
@[simp] theorem State.setClock_control (x : Clock) : (s.setClock x).control = s.control := rfl
@[simp] theorem State.setClock_profile (x : Clock) : (s.setClock x).profile = s.profile := rfl
@[simp] theorem State.setClock_board (x : Clock) : (s.setClock x).board = s.board := rfl
@[simp] theorem State.setClock_intake (x : Clock) : (s.setClock x).intake = s.intake := rfl
@[simp] theorem State.setClock_inputs (x : Clock) : (s.setClock x).inputs = s.inputs := rfl
@[simp] theorem State.setClock_arbiter (x : Clock) : (s.setClock x).arbiter = s.arbiter := rfl
@[simp] theorem State.setClock_start (x : Clock) : (s.setClock x).start = s.start := rfl
@[simp] theorem State.setClock_trackers (x : Clock) : (s.setClock x).trackers = s.trackers := rfl
@[simp] theorem State.setClock_remainders (x : Clock) : (s.setClock x).remainders = s.remainders := rfl
@[simp] theorem State.setClock_table (x : Clock) : (s.setClock x).table = s.table := rfl
@[simp] theorem State.setClock_hire (x : Clock) : (s.setClock x).hire = s.hire := rfl
@[simp] theorem State.setClock_journal (x : Clock) : (s.setClock x).journal = s.journal := rfl
@[simp] theorem State.setClock_store (x : Clock) : (s.setClock x).store = s.store := rfl
@[simp] theorem State.setClock_notices (x : Clock) : (s.setClock x).notices = s.notices := rfl
@[simp] theorem State.setClock_link (x : Clock) : (s.setClock x).link = s.link := rfl
@[simp] theorem State.setClock_stream (x : Clock) : (s.setClock x).stream = s.stream := rfl
@[simp] theorem State.setClock_server (x : Clock) : (s.setClock x).server = s.server := rfl
@[simp] theorem State.setClock_free (x : Clock) : (s.setClock x).free = s.free := rfl
@[simp] theorem State.setClock_pending (x : Clock) : (s.setClock x).pending = s.pending := rfl
@[simp] theorem State.setControl_clock (x : Control) : (s.setControl x).clock = s.clock := rfl
@[simp] theorem State.setControl_control (x : Control) : (s.setControl x).control = x := rfl
@[simp] theorem State.setControl_profile (x : Control) : (s.setControl x).profile = s.profile := rfl
@[simp] theorem State.setControl_board (x : Control) : (s.setControl x).board = s.board := rfl
@[simp] theorem State.setControl_intake (x : Control) : (s.setControl x).intake = s.intake := rfl
@[simp] theorem State.setControl_inputs (x : Control) : (s.setControl x).inputs = s.inputs := rfl
@[simp] theorem State.setControl_arbiter (x : Control) : (s.setControl x).arbiter = s.arbiter := rfl
@[simp] theorem State.setControl_start (x : Control) : (s.setControl x).start = s.start := rfl
@[simp] theorem State.setControl_trackers (x : Control) : (s.setControl x).trackers = s.trackers := rfl
@[simp] theorem State.setControl_remainders (x : Control) : (s.setControl x).remainders = s.remainders := rfl
@[simp] theorem State.setControl_table (x : Control) : (s.setControl x).table = s.table := rfl
@[simp] theorem State.setControl_hire (x : Control) : (s.setControl x).hire = s.hire := rfl
@[simp] theorem State.setControl_journal (x : Control) : (s.setControl x).journal = s.journal := rfl
@[simp] theorem State.setControl_store (x : Control) : (s.setControl x).store = s.store := rfl
@[simp] theorem State.setControl_notices (x : Control) : (s.setControl x).notices = s.notices := rfl
@[simp] theorem State.setControl_link (x : Control) : (s.setControl x).link = s.link := rfl
@[simp] theorem State.setControl_stream (x : Control) : (s.setControl x).stream = s.stream := rfl
@[simp] theorem State.setControl_server (x : Control) : (s.setControl x).server = s.server := rfl
@[simp] theorem State.setControl_free (x : Control) : (s.setControl x).free = s.free := rfl
@[simp] theorem State.setControl_pending (x : Control) : (s.setControl x).pending = s.pending := rfl
@[simp] theorem State.setProfile_clock (x : Profile) : (s.setProfile x).clock = s.clock := rfl
@[simp] theorem State.setProfile_control (x : Profile) : (s.setProfile x).control = s.control := rfl
@[simp] theorem State.setProfile_profile (x : Profile) : (s.setProfile x).profile = x := rfl
@[simp] theorem State.setProfile_board (x : Profile) : (s.setProfile x).board = s.board := rfl
@[simp] theorem State.setProfile_intake (x : Profile) : (s.setProfile x).intake = s.intake := rfl
@[simp] theorem State.setProfile_inputs (x : Profile) : (s.setProfile x).inputs = s.inputs := rfl
@[simp] theorem State.setProfile_arbiter (x : Profile) : (s.setProfile x).arbiter = s.arbiter := rfl
@[simp] theorem State.setProfile_start (x : Profile) : (s.setProfile x).start = s.start := rfl
@[simp] theorem State.setProfile_trackers (x : Profile) : (s.setProfile x).trackers = s.trackers := rfl
@[simp] theorem State.setProfile_remainders (x : Profile) : (s.setProfile x).remainders = s.remainders := rfl
@[simp] theorem State.setProfile_table (x : Profile) : (s.setProfile x).table = s.table := rfl
@[simp] theorem State.setProfile_hire (x : Profile) : (s.setProfile x).hire = s.hire := rfl
@[simp] theorem State.setProfile_journal (x : Profile) : (s.setProfile x).journal = s.journal := rfl
@[simp] theorem State.setProfile_store (x : Profile) : (s.setProfile x).store = s.store := rfl
@[simp] theorem State.setProfile_notices (x : Profile) : (s.setProfile x).notices = s.notices := rfl
@[simp] theorem State.setProfile_link (x : Profile) : (s.setProfile x).link = s.link := rfl
@[simp] theorem State.setProfile_stream (x : Profile) : (s.setProfile x).stream = s.stream := rfl
@[simp] theorem State.setProfile_server (x : Profile) : (s.setProfile x).server = s.server := rfl
@[simp] theorem State.setProfile_free (x : Profile) : (s.setProfile x).free = s.free := rfl
@[simp] theorem State.setProfile_pending (x : Profile) : (s.setProfile x).pending = s.pending := rfl
@[simp] theorem State.setBoard_clock (x : Board) : (s.setBoard x).clock = s.clock := rfl
@[simp] theorem State.setBoard_control (x : Board) : (s.setBoard x).control = s.control := rfl
@[simp] theorem State.setBoard_profile (x : Board) : (s.setBoard x).profile = s.profile := rfl
@[simp] theorem State.setBoard_board (x : Board) : (s.setBoard x).board = x := rfl
@[simp] theorem State.setBoard_intake (x : Board) : (s.setBoard x).intake = s.intake := rfl
@[simp] theorem State.setBoard_inputs (x : Board) : (s.setBoard x).inputs = s.inputs := rfl
@[simp] theorem State.setBoard_arbiter (x : Board) : (s.setBoard x).arbiter = s.arbiter := rfl
@[simp] theorem State.setBoard_start (x : Board) : (s.setBoard x).start = s.start := rfl
@[simp] theorem State.setBoard_trackers (x : Board) : (s.setBoard x).trackers = s.trackers := rfl
@[simp] theorem State.setBoard_remainders (x : Board) : (s.setBoard x).remainders = s.remainders := rfl
@[simp] theorem State.setBoard_table (x : Board) : (s.setBoard x).table = s.table := rfl
@[simp] theorem State.setBoard_hire (x : Board) : (s.setBoard x).hire = s.hire := rfl
@[simp] theorem State.setBoard_journal (x : Board) : (s.setBoard x).journal = s.journal := rfl
@[simp] theorem State.setBoard_store (x : Board) : (s.setBoard x).store = s.store := rfl
@[simp] theorem State.setBoard_notices (x : Board) : (s.setBoard x).notices = s.notices := rfl
@[simp] theorem State.setBoard_link (x : Board) : (s.setBoard x).link = s.link := rfl
@[simp] theorem State.setBoard_stream (x : Board) : (s.setBoard x).stream = s.stream := rfl
@[simp] theorem State.setBoard_server (x : Board) : (s.setBoard x).server = s.server := rfl
@[simp] theorem State.setBoard_free (x : Board) : (s.setBoard x).free = s.free := rfl
@[simp] theorem State.setBoard_pending (x : Board) : (s.setBoard x).pending = s.pending := rfl
@[simp] theorem State.setIntake_clock (x : Intake) : (s.setIntake x).clock = s.clock := rfl
@[simp] theorem State.setIntake_control (x : Intake) : (s.setIntake x).control = s.control := rfl
@[simp] theorem State.setIntake_profile (x : Intake) : (s.setIntake x).profile = s.profile := rfl
@[simp] theorem State.setIntake_board (x : Intake) : (s.setIntake x).board = s.board := rfl
@[simp] theorem State.setIntake_intake (x : Intake) : (s.setIntake x).intake = x := rfl
@[simp] theorem State.setIntake_inputs (x : Intake) : (s.setIntake x).inputs = s.inputs := rfl
@[simp] theorem State.setIntake_arbiter (x : Intake) : (s.setIntake x).arbiter = s.arbiter := rfl
@[simp] theorem State.setIntake_start (x : Intake) : (s.setIntake x).start = s.start := rfl
@[simp] theorem State.setIntake_trackers (x : Intake) : (s.setIntake x).trackers = s.trackers := rfl
@[simp] theorem State.setIntake_remainders (x : Intake) : (s.setIntake x).remainders = s.remainders := rfl
@[simp] theorem State.setIntake_table (x : Intake) : (s.setIntake x).table = s.table := rfl
@[simp] theorem State.setIntake_hire (x : Intake) : (s.setIntake x).hire = s.hire := rfl
@[simp] theorem State.setIntake_journal (x : Intake) : (s.setIntake x).journal = s.journal := rfl
@[simp] theorem State.setIntake_store (x : Intake) : (s.setIntake x).store = s.store := rfl
@[simp] theorem State.setIntake_notices (x : Intake) : (s.setIntake x).notices = s.notices := rfl
@[simp] theorem State.setIntake_link (x : Intake) : (s.setIntake x).link = s.link := rfl
@[simp] theorem State.setIntake_stream (x : Intake) : (s.setIntake x).stream = s.stream := rfl
@[simp] theorem State.setIntake_server (x : Intake) : (s.setIntake x).server = s.server := rfl
@[simp] theorem State.setIntake_free (x : Intake) : (s.setIntake x).free = s.free := rfl
@[simp] theorem State.setIntake_pending (x : Intake) : (s.setIntake x).pending = s.pending := rfl
@[simp] theorem State.setInputs_clock (x : Inputs) : (s.setInputs x).clock = s.clock := rfl
@[simp] theorem State.setInputs_control (x : Inputs) : (s.setInputs x).control = s.control := rfl
@[simp] theorem State.setInputs_profile (x : Inputs) : (s.setInputs x).profile = s.profile := rfl
@[simp] theorem State.setInputs_board (x : Inputs) : (s.setInputs x).board = s.board := rfl
@[simp] theorem State.setInputs_intake (x : Inputs) : (s.setInputs x).intake = s.intake := rfl
@[simp] theorem State.setInputs_inputs (x : Inputs) : (s.setInputs x).inputs = x := rfl
@[simp] theorem State.setInputs_arbiter (x : Inputs) : (s.setInputs x).arbiter = s.arbiter := rfl
@[simp] theorem State.setInputs_start (x : Inputs) : (s.setInputs x).start = s.start := rfl
@[simp] theorem State.setInputs_trackers (x : Inputs) : (s.setInputs x).trackers = s.trackers := rfl
@[simp] theorem State.setInputs_remainders (x : Inputs) : (s.setInputs x).remainders = s.remainders := rfl
@[simp] theorem State.setInputs_table (x : Inputs) : (s.setInputs x).table = s.table := rfl
@[simp] theorem State.setInputs_hire (x : Inputs) : (s.setInputs x).hire = s.hire := rfl
@[simp] theorem State.setInputs_journal (x : Inputs) : (s.setInputs x).journal = s.journal := rfl
@[simp] theorem State.setInputs_store (x : Inputs) : (s.setInputs x).store = s.store := rfl
@[simp] theorem State.setInputs_notices (x : Inputs) : (s.setInputs x).notices = s.notices := rfl
@[simp] theorem State.setInputs_link (x : Inputs) : (s.setInputs x).link = s.link := rfl
@[simp] theorem State.setInputs_stream (x : Inputs) : (s.setInputs x).stream = s.stream := rfl
@[simp] theorem State.setInputs_server (x : Inputs) : (s.setInputs x).server = s.server := rfl
@[simp] theorem State.setInputs_free (x : Inputs) : (s.setInputs x).free = s.free := rfl
@[simp] theorem State.setInputs_pending (x : Inputs) : (s.setInputs x).pending = s.pending := rfl
@[simp] theorem State.setArbiter_clock (x : Arbiter) : (s.setArbiter x).clock = s.clock := rfl
@[simp] theorem State.setArbiter_control (x : Arbiter) : (s.setArbiter x).control = s.control := rfl
@[simp] theorem State.setArbiter_profile (x : Arbiter) : (s.setArbiter x).profile = s.profile := rfl
@[simp] theorem State.setArbiter_board (x : Arbiter) : (s.setArbiter x).board = s.board := rfl
@[simp] theorem State.setArbiter_intake (x : Arbiter) : (s.setArbiter x).intake = s.intake := rfl
@[simp] theorem State.setArbiter_inputs (x : Arbiter) : (s.setArbiter x).inputs = s.inputs := rfl
@[simp] theorem State.setArbiter_arbiter (x : Arbiter) : (s.setArbiter x).arbiter = x := rfl
@[simp] theorem State.setArbiter_start (x : Arbiter) : (s.setArbiter x).start = s.start := rfl
@[simp] theorem State.setArbiter_trackers (x : Arbiter) : (s.setArbiter x).trackers = s.trackers := rfl
@[simp] theorem State.setArbiter_remainders (x : Arbiter) : (s.setArbiter x).remainders = s.remainders := rfl
@[simp] theorem State.setArbiter_table (x : Arbiter) : (s.setArbiter x).table = s.table := rfl
@[simp] theorem State.setArbiter_hire (x : Arbiter) : (s.setArbiter x).hire = s.hire := rfl
@[simp] theorem State.setArbiter_journal (x : Arbiter) : (s.setArbiter x).journal = s.journal := rfl
@[simp] theorem State.setArbiter_store (x : Arbiter) : (s.setArbiter x).store = s.store := rfl
@[simp] theorem State.setArbiter_notices (x : Arbiter) : (s.setArbiter x).notices = s.notices := rfl
@[simp] theorem State.setArbiter_link (x : Arbiter) : (s.setArbiter x).link = s.link := rfl
@[simp] theorem State.setArbiter_stream (x : Arbiter) : (s.setArbiter x).stream = s.stream := rfl
@[simp] theorem State.setArbiter_server (x : Arbiter) : (s.setArbiter x).server = s.server := rfl
@[simp] theorem State.setArbiter_free (x : Arbiter) : (s.setArbiter x).free = s.free := rfl
@[simp] theorem State.setArbiter_pending (x : Arbiter) : (s.setArbiter x).pending = s.pending := rfl
@[simp] theorem State.setStart_clock (x : StartMachine) : (s.setStart x).clock = s.clock := rfl
@[simp] theorem State.setStart_control (x : StartMachine) : (s.setStart x).control = s.control := rfl
@[simp] theorem State.setStart_profile (x : StartMachine) : (s.setStart x).profile = s.profile := rfl
@[simp] theorem State.setStart_board (x : StartMachine) : (s.setStart x).board = s.board := rfl
@[simp] theorem State.setStart_intake (x : StartMachine) : (s.setStart x).intake = s.intake := rfl
@[simp] theorem State.setStart_inputs (x : StartMachine) : (s.setStart x).inputs = s.inputs := rfl
@[simp] theorem State.setStart_arbiter (x : StartMachine) : (s.setStart x).arbiter = s.arbiter := rfl
@[simp] theorem State.setStart_start (x : StartMachine) : (s.setStart x).start = x := rfl
@[simp] theorem State.setStart_trackers (x : StartMachine) : (s.setStart x).trackers = s.trackers := rfl
@[simp] theorem State.setStart_remainders (x : StartMachine) : (s.setStart x).remainders = s.remainders := rfl
@[simp] theorem State.setStart_table (x : StartMachine) : (s.setStart x).table = s.table := rfl
@[simp] theorem State.setStart_hire (x : StartMachine) : (s.setStart x).hire = s.hire := rfl
@[simp] theorem State.setStart_journal (x : StartMachine) : (s.setStart x).journal = s.journal := rfl
@[simp] theorem State.setStart_store (x : StartMachine) : (s.setStart x).store = s.store := rfl
@[simp] theorem State.setStart_notices (x : StartMachine) : (s.setStart x).notices = s.notices := rfl
@[simp] theorem State.setStart_link (x : StartMachine) : (s.setStart x).link = s.link := rfl
@[simp] theorem State.setStart_stream (x : StartMachine) : (s.setStart x).stream = s.stream := rfl
@[simp] theorem State.setStart_server (x : StartMachine) : (s.setStart x).server = s.server := rfl
@[simp] theorem State.setStart_free (x : StartMachine) : (s.setStart x).free = s.free := rfl
@[simp] theorem State.setStart_pending (x : StartMachine) : (s.setStart x).pending = s.pending := rfl
@[simp] theorem State.setTrackers_clock (x : Trackers) : (s.setTrackers x).clock = s.clock := rfl
@[simp] theorem State.setTrackers_control (x : Trackers) : (s.setTrackers x).control = s.control := rfl
@[simp] theorem State.setTrackers_profile (x : Trackers) : (s.setTrackers x).profile = s.profile := rfl
@[simp] theorem State.setTrackers_board (x : Trackers) : (s.setTrackers x).board = s.board := rfl
@[simp] theorem State.setTrackers_intake (x : Trackers) : (s.setTrackers x).intake = s.intake := rfl
@[simp] theorem State.setTrackers_inputs (x : Trackers) : (s.setTrackers x).inputs = s.inputs := rfl
@[simp] theorem State.setTrackers_arbiter (x : Trackers) : (s.setTrackers x).arbiter = s.arbiter := rfl
@[simp] theorem State.setTrackers_start (x : Trackers) : (s.setTrackers x).start = s.start := rfl
@[simp] theorem State.setTrackers_trackers (x : Trackers) : (s.setTrackers x).trackers = x := rfl
@[simp] theorem State.setTrackers_remainders (x : Trackers) : (s.setTrackers x).remainders = s.remainders := rfl
@[simp] theorem State.setTrackers_table (x : Trackers) : (s.setTrackers x).table = s.table := rfl
@[simp] theorem State.setTrackers_hire (x : Trackers) : (s.setTrackers x).hire = s.hire := rfl
@[simp] theorem State.setTrackers_journal (x : Trackers) : (s.setTrackers x).journal = s.journal := rfl
@[simp] theorem State.setTrackers_store (x : Trackers) : (s.setTrackers x).store = s.store := rfl
@[simp] theorem State.setTrackers_notices (x : Trackers) : (s.setTrackers x).notices = s.notices := rfl
@[simp] theorem State.setTrackers_link (x : Trackers) : (s.setTrackers x).link = s.link := rfl
@[simp] theorem State.setTrackers_stream (x : Trackers) : (s.setTrackers x).stream = s.stream := rfl
@[simp] theorem State.setTrackers_server (x : Trackers) : (s.setTrackers x).server = s.server := rfl
@[simp] theorem State.setTrackers_free (x : Trackers) : (s.setTrackers x).free = s.free := rfl
@[simp] theorem State.setTrackers_pending (x : Trackers) : (s.setTrackers x).pending = s.pending := rfl
@[simp] theorem State.setRemainders_clock (x : Remainders) : (s.setRemainders x).clock = s.clock := rfl
@[simp] theorem State.setRemainders_control (x : Remainders) : (s.setRemainders x).control = s.control := rfl
@[simp] theorem State.setRemainders_profile (x : Remainders) : (s.setRemainders x).profile = s.profile := rfl
@[simp] theorem State.setRemainders_board (x : Remainders) : (s.setRemainders x).board = s.board := rfl
@[simp] theorem State.setRemainders_intake (x : Remainders) : (s.setRemainders x).intake = s.intake := rfl
@[simp] theorem State.setRemainders_inputs (x : Remainders) : (s.setRemainders x).inputs = s.inputs := rfl
@[simp] theorem State.setRemainders_arbiter (x : Remainders) : (s.setRemainders x).arbiter = s.arbiter := rfl
@[simp] theorem State.setRemainders_start (x : Remainders) : (s.setRemainders x).start = s.start := rfl
@[simp] theorem State.setRemainders_trackers (x : Remainders) : (s.setRemainders x).trackers = s.trackers := rfl
@[simp] theorem State.setRemainders_remainders (x : Remainders) : (s.setRemainders x).remainders = x := rfl
@[simp] theorem State.setRemainders_table (x : Remainders) : (s.setRemainders x).table = s.table := rfl
@[simp] theorem State.setRemainders_hire (x : Remainders) : (s.setRemainders x).hire = s.hire := rfl
@[simp] theorem State.setRemainders_journal (x : Remainders) : (s.setRemainders x).journal = s.journal := rfl
@[simp] theorem State.setRemainders_store (x : Remainders) : (s.setRemainders x).store = s.store := rfl
@[simp] theorem State.setRemainders_notices (x : Remainders) : (s.setRemainders x).notices = s.notices := rfl
@[simp] theorem State.setRemainders_link (x : Remainders) : (s.setRemainders x).link = s.link := rfl
@[simp] theorem State.setRemainders_stream (x : Remainders) : (s.setRemainders x).stream = s.stream := rfl
@[simp] theorem State.setRemainders_server (x : Remainders) : (s.setRemainders x).server = s.server := rfl
@[simp] theorem State.setRemainders_free (x : Remainders) : (s.setRemainders x).free = s.free := rfl
@[simp] theorem State.setRemainders_pending (x : Remainders) : (s.setRemainders x).pending = s.pending := rfl
@[simp] theorem State.setTable_clock (x : Table) : (s.setTable x).clock = s.clock := rfl
@[simp] theorem State.setTable_control (x : Table) : (s.setTable x).control = s.control := rfl
@[simp] theorem State.setTable_profile (x : Table) : (s.setTable x).profile = s.profile := rfl
@[simp] theorem State.setTable_board (x : Table) : (s.setTable x).board = s.board := rfl
@[simp] theorem State.setTable_intake (x : Table) : (s.setTable x).intake = s.intake := rfl
@[simp] theorem State.setTable_inputs (x : Table) : (s.setTable x).inputs = s.inputs := rfl
@[simp] theorem State.setTable_arbiter (x : Table) : (s.setTable x).arbiter = s.arbiter := rfl
@[simp] theorem State.setTable_start (x : Table) : (s.setTable x).start = s.start := rfl
@[simp] theorem State.setTable_trackers (x : Table) : (s.setTable x).trackers = s.trackers := rfl
@[simp] theorem State.setTable_remainders (x : Table) : (s.setTable x).remainders = s.remainders := rfl
@[simp] theorem State.setTable_table (x : Table) : (s.setTable x).table = x := rfl
@[simp] theorem State.setTable_hire (x : Table) : (s.setTable x).hire = s.hire := rfl
@[simp] theorem State.setTable_journal (x : Table) : (s.setTable x).journal = s.journal := rfl
@[simp] theorem State.setTable_store (x : Table) : (s.setTable x).store = s.store := rfl
@[simp] theorem State.setTable_notices (x : Table) : (s.setTable x).notices = s.notices := rfl
@[simp] theorem State.setTable_link (x : Table) : (s.setTable x).link = s.link := rfl
@[simp] theorem State.setTable_stream (x : Table) : (s.setTable x).stream = s.stream := rfl
@[simp] theorem State.setTable_server (x : Table) : (s.setTable x).server = s.server := rfl
@[simp] theorem State.setTable_free (x : Table) : (s.setTable x).free = s.free := rfl
@[simp] theorem State.setTable_pending (x : Table) : (s.setTable x).pending = s.pending := rfl
@[simp] theorem State.setHire_clock (x : HireControl) : (s.setHire x).clock = s.clock := rfl
@[simp] theorem State.setHire_control (x : HireControl) : (s.setHire x).control = s.control := rfl
@[simp] theorem State.setHire_profile (x : HireControl) : (s.setHire x).profile = s.profile := rfl
@[simp] theorem State.setHire_board (x : HireControl) : (s.setHire x).board = s.board := rfl
@[simp] theorem State.setHire_intake (x : HireControl) : (s.setHire x).intake = s.intake := rfl
@[simp] theorem State.setHire_inputs (x : HireControl) : (s.setHire x).inputs = s.inputs := rfl
@[simp] theorem State.setHire_arbiter (x : HireControl) : (s.setHire x).arbiter = s.arbiter := rfl
@[simp] theorem State.setHire_start (x : HireControl) : (s.setHire x).start = s.start := rfl
@[simp] theorem State.setHire_trackers (x : HireControl) : (s.setHire x).trackers = s.trackers := rfl
@[simp] theorem State.setHire_remainders (x : HireControl) : (s.setHire x).remainders = s.remainders := rfl
@[simp] theorem State.setHire_table (x : HireControl) : (s.setHire x).table = s.table := rfl
@[simp] theorem State.setHire_hire (x : HireControl) : (s.setHire x).hire = x := rfl
@[simp] theorem State.setHire_journal (x : HireControl) : (s.setHire x).journal = s.journal := rfl
@[simp] theorem State.setHire_store (x : HireControl) : (s.setHire x).store = s.store := rfl
@[simp] theorem State.setHire_notices (x : HireControl) : (s.setHire x).notices = s.notices := rfl
@[simp] theorem State.setHire_link (x : HireControl) : (s.setHire x).link = s.link := rfl
@[simp] theorem State.setHire_stream (x : HireControl) : (s.setHire x).stream = s.stream := rfl
@[simp] theorem State.setHire_server (x : HireControl) : (s.setHire x).server = s.server := rfl
@[simp] theorem State.setHire_free (x : HireControl) : (s.setHire x).free = s.free := rfl
@[simp] theorem State.setHire_pending (x : HireControl) : (s.setHire x).pending = s.pending := rfl
@[simp] theorem State.setJournal_clock (x : Journal) : (s.setJournal x).clock = s.clock := rfl
@[simp] theorem State.setJournal_control (x : Journal) : (s.setJournal x).control = s.control := rfl
@[simp] theorem State.setJournal_profile (x : Journal) : (s.setJournal x).profile = s.profile := rfl
@[simp] theorem State.setJournal_board (x : Journal) : (s.setJournal x).board = s.board := rfl
@[simp] theorem State.setJournal_intake (x : Journal) : (s.setJournal x).intake = s.intake := rfl
@[simp] theorem State.setJournal_inputs (x : Journal) : (s.setJournal x).inputs = s.inputs := rfl
@[simp] theorem State.setJournal_arbiter (x : Journal) : (s.setJournal x).arbiter = s.arbiter := rfl
@[simp] theorem State.setJournal_start (x : Journal) : (s.setJournal x).start = s.start := rfl
@[simp] theorem State.setJournal_trackers (x : Journal) : (s.setJournal x).trackers = s.trackers := rfl
@[simp] theorem State.setJournal_remainders (x : Journal) : (s.setJournal x).remainders = s.remainders := rfl
@[simp] theorem State.setJournal_table (x : Journal) : (s.setJournal x).table = s.table := rfl
@[simp] theorem State.setJournal_hire (x : Journal) : (s.setJournal x).hire = s.hire := rfl
@[simp] theorem State.setJournal_journal (x : Journal) : (s.setJournal x).journal = x := rfl
@[simp] theorem State.setJournal_store (x : Journal) : (s.setJournal x).store = s.store := rfl
@[simp] theorem State.setJournal_notices (x : Journal) : (s.setJournal x).notices = s.notices := rfl
@[simp] theorem State.setJournal_link (x : Journal) : (s.setJournal x).link = s.link := rfl
@[simp] theorem State.setJournal_stream (x : Journal) : (s.setJournal x).stream = s.stream := rfl
@[simp] theorem State.setJournal_server (x : Journal) : (s.setJournal x).server = s.server := rfl
@[simp] theorem State.setJournal_free (x : Journal) : (s.setJournal x).free = s.free := rfl
@[simp] theorem State.setJournal_pending (x : Journal) : (s.setJournal x).pending = s.pending := rfl
@[simp] theorem State.setStore_clock (x : Store) : (s.setStore x).clock = s.clock := rfl
@[simp] theorem State.setStore_control (x : Store) : (s.setStore x).control = s.control := rfl
@[simp] theorem State.setStore_profile (x : Store) : (s.setStore x).profile = s.profile := rfl
@[simp] theorem State.setStore_board (x : Store) : (s.setStore x).board = s.board := rfl
@[simp] theorem State.setStore_intake (x : Store) : (s.setStore x).intake = s.intake := rfl
@[simp] theorem State.setStore_inputs (x : Store) : (s.setStore x).inputs = s.inputs := rfl
@[simp] theorem State.setStore_arbiter (x : Store) : (s.setStore x).arbiter = s.arbiter := rfl
@[simp] theorem State.setStore_start (x : Store) : (s.setStore x).start = s.start := rfl
@[simp] theorem State.setStore_trackers (x : Store) : (s.setStore x).trackers = s.trackers := rfl
@[simp] theorem State.setStore_remainders (x : Store) : (s.setStore x).remainders = s.remainders := rfl
@[simp] theorem State.setStore_table (x : Store) : (s.setStore x).table = s.table := rfl
@[simp] theorem State.setStore_hire (x : Store) : (s.setStore x).hire = s.hire := rfl
@[simp] theorem State.setStore_journal (x : Store) : (s.setStore x).journal = s.journal := rfl
@[simp] theorem State.setStore_store (x : Store) : (s.setStore x).store = x := rfl
@[simp] theorem State.setStore_notices (x : Store) : (s.setStore x).notices = s.notices := rfl
@[simp] theorem State.setStore_link (x : Store) : (s.setStore x).link = s.link := rfl
@[simp] theorem State.setStore_stream (x : Store) : (s.setStore x).stream = s.stream := rfl
@[simp] theorem State.setStore_server (x : Store) : (s.setStore x).server = s.server := rfl
@[simp] theorem State.setStore_free (x : Store) : (s.setStore x).free = s.free := rfl
@[simp] theorem State.setStore_pending (x : Store) : (s.setStore x).pending = s.pending := rfl
@[simp] theorem State.setNotices_clock (x : Notices) : (s.setNotices x).clock = s.clock := rfl
@[simp] theorem State.setNotices_control (x : Notices) : (s.setNotices x).control = s.control := rfl
@[simp] theorem State.setNotices_profile (x : Notices) : (s.setNotices x).profile = s.profile := rfl
@[simp] theorem State.setNotices_board (x : Notices) : (s.setNotices x).board = s.board := rfl
@[simp] theorem State.setNotices_intake (x : Notices) : (s.setNotices x).intake = s.intake := rfl
@[simp] theorem State.setNotices_inputs (x : Notices) : (s.setNotices x).inputs = s.inputs := rfl
@[simp] theorem State.setNotices_arbiter (x : Notices) : (s.setNotices x).arbiter = s.arbiter := rfl
@[simp] theorem State.setNotices_start (x : Notices) : (s.setNotices x).start = s.start := rfl
@[simp] theorem State.setNotices_trackers (x : Notices) : (s.setNotices x).trackers = s.trackers := rfl
@[simp] theorem State.setNotices_remainders (x : Notices) : (s.setNotices x).remainders = s.remainders := rfl
@[simp] theorem State.setNotices_table (x : Notices) : (s.setNotices x).table = s.table := rfl
@[simp] theorem State.setNotices_hire (x : Notices) : (s.setNotices x).hire = s.hire := rfl
@[simp] theorem State.setNotices_journal (x : Notices) : (s.setNotices x).journal = s.journal := rfl
@[simp] theorem State.setNotices_store (x : Notices) : (s.setNotices x).store = s.store := rfl
@[simp] theorem State.setNotices_notices (x : Notices) : (s.setNotices x).notices = x := rfl
@[simp] theorem State.setNotices_link (x : Notices) : (s.setNotices x).link = s.link := rfl
@[simp] theorem State.setNotices_stream (x : Notices) : (s.setNotices x).stream = s.stream := rfl
@[simp] theorem State.setNotices_server (x : Notices) : (s.setNotices x).server = s.server := rfl
@[simp] theorem State.setNotices_free (x : Notices) : (s.setNotices x).free = s.free := rfl
@[simp] theorem State.setNotices_pending (x : Notices) : (s.setNotices x).pending = s.pending := rfl
@[simp] theorem State.setLink_clock (x : Link) : (s.setLink x).clock = s.clock := rfl
@[simp] theorem State.setLink_control (x : Link) : (s.setLink x).control = s.control := rfl
@[simp] theorem State.setLink_profile (x : Link) : (s.setLink x).profile = s.profile := rfl
@[simp] theorem State.setLink_board (x : Link) : (s.setLink x).board = s.board := rfl
@[simp] theorem State.setLink_intake (x : Link) : (s.setLink x).intake = s.intake := rfl
@[simp] theorem State.setLink_inputs (x : Link) : (s.setLink x).inputs = s.inputs := rfl
@[simp] theorem State.setLink_arbiter (x : Link) : (s.setLink x).arbiter = s.arbiter := rfl
@[simp] theorem State.setLink_start (x : Link) : (s.setLink x).start = s.start := rfl
@[simp] theorem State.setLink_trackers (x : Link) : (s.setLink x).trackers = s.trackers := rfl
@[simp] theorem State.setLink_remainders (x : Link) : (s.setLink x).remainders = s.remainders := rfl
@[simp] theorem State.setLink_table (x : Link) : (s.setLink x).table = s.table := rfl
@[simp] theorem State.setLink_hire (x : Link) : (s.setLink x).hire = s.hire := rfl
@[simp] theorem State.setLink_journal (x : Link) : (s.setLink x).journal = s.journal := rfl
@[simp] theorem State.setLink_store (x : Link) : (s.setLink x).store = s.store := rfl
@[simp] theorem State.setLink_notices (x : Link) : (s.setLink x).notices = s.notices := rfl
@[simp] theorem State.setLink_link (x : Link) : (s.setLink x).link = x := rfl
@[simp] theorem State.setLink_stream (x : Link) : (s.setLink x).stream = s.stream := rfl
@[simp] theorem State.setLink_server (x : Link) : (s.setLink x).server = s.server := rfl
@[simp] theorem State.setLink_free (x : Link) : (s.setLink x).free = s.free := rfl
@[simp] theorem State.setLink_pending (x : Link) : (s.setLink x).pending = s.pending := rfl
@[simp] theorem State.setStream_clock (x : StreamEngine) : (s.setStream x).clock = s.clock := rfl
@[simp] theorem State.setStream_control (x : StreamEngine) : (s.setStream x).control = s.control := rfl
@[simp] theorem State.setStream_profile (x : StreamEngine) : (s.setStream x).profile = s.profile := rfl
@[simp] theorem State.setStream_board (x : StreamEngine) : (s.setStream x).board = s.board := rfl
@[simp] theorem State.setStream_intake (x : StreamEngine) : (s.setStream x).intake = s.intake := rfl
@[simp] theorem State.setStream_inputs (x : StreamEngine) : (s.setStream x).inputs = s.inputs := rfl
@[simp] theorem State.setStream_arbiter (x : StreamEngine) : (s.setStream x).arbiter = s.arbiter := rfl
@[simp] theorem State.setStream_start (x : StreamEngine) : (s.setStream x).start = s.start := rfl
@[simp] theorem State.setStream_trackers (x : StreamEngine) : (s.setStream x).trackers = s.trackers := rfl
@[simp] theorem State.setStream_remainders (x : StreamEngine) : (s.setStream x).remainders = s.remainders := rfl
@[simp] theorem State.setStream_table (x : StreamEngine) : (s.setStream x).table = s.table := rfl
@[simp] theorem State.setStream_hire (x : StreamEngine) : (s.setStream x).hire = s.hire := rfl
@[simp] theorem State.setStream_journal (x : StreamEngine) : (s.setStream x).journal = s.journal := rfl
@[simp] theorem State.setStream_store (x : StreamEngine) : (s.setStream x).store = s.store := rfl
@[simp] theorem State.setStream_notices (x : StreamEngine) : (s.setStream x).notices = s.notices := rfl
@[simp] theorem State.setStream_link (x : StreamEngine) : (s.setStream x).link = s.link := rfl
@[simp] theorem State.setStream_stream (x : StreamEngine) : (s.setStream x).stream = x := rfl
@[simp] theorem State.setStream_server (x : StreamEngine) : (s.setStream x).server = s.server := rfl
@[simp] theorem State.setStream_free (x : StreamEngine) : (s.setStream x).free = s.free := rfl
@[simp] theorem State.setStream_pending (x : StreamEngine) : (s.setStream x).pending = s.pending := rfl
@[simp] theorem State.setServer_clock (x : Server) : (s.setServer x).clock = s.clock := rfl
@[simp] theorem State.setServer_control (x : Server) : (s.setServer x).control = s.control := rfl
@[simp] theorem State.setServer_profile (x : Server) : (s.setServer x).profile = s.profile := rfl
@[simp] theorem State.setServer_board (x : Server) : (s.setServer x).board = s.board := rfl
@[simp] theorem State.setServer_intake (x : Server) : (s.setServer x).intake = s.intake := rfl
@[simp] theorem State.setServer_inputs (x : Server) : (s.setServer x).inputs = s.inputs := rfl
@[simp] theorem State.setServer_arbiter (x : Server) : (s.setServer x).arbiter = s.arbiter := rfl
@[simp] theorem State.setServer_start (x : Server) : (s.setServer x).start = s.start := rfl
@[simp] theorem State.setServer_trackers (x : Server) : (s.setServer x).trackers = s.trackers := rfl
@[simp] theorem State.setServer_remainders (x : Server) : (s.setServer x).remainders = s.remainders := rfl
@[simp] theorem State.setServer_table (x : Server) : (s.setServer x).table = s.table := rfl
@[simp] theorem State.setServer_hire (x : Server) : (s.setServer x).hire = s.hire := rfl
@[simp] theorem State.setServer_journal (x : Server) : (s.setServer x).journal = s.journal := rfl
@[simp] theorem State.setServer_store (x : Server) : (s.setServer x).store = s.store := rfl
@[simp] theorem State.setServer_notices (x : Server) : (s.setServer x).notices = s.notices := rfl
@[simp] theorem State.setServer_link (x : Server) : (s.setServer x).link = s.link := rfl
@[simp] theorem State.setServer_stream (x : Server) : (s.setServer x).stream = s.stream := rfl
@[simp] theorem State.setServer_server (x : Server) : (s.setServer x).server = x := rfl
@[simp] theorem State.setServer_free (x : Server) : (s.setServer x).free = s.free := rfl
@[simp] theorem State.setServer_pending (x : Server) : (s.setServer x).pending = s.pending := rfl
@[simp] theorem State.setFree_clock (x : Nat) : (s.setFree x).clock = s.clock := rfl
@[simp] theorem State.setFree_control (x : Nat) : (s.setFree x).control = s.control := rfl
@[simp] theorem State.setFree_profile (x : Nat) : (s.setFree x).profile = s.profile := rfl
@[simp] theorem State.setFree_board (x : Nat) : (s.setFree x).board = s.board := rfl
@[simp] theorem State.setFree_intake (x : Nat) : (s.setFree x).intake = s.intake := rfl
@[simp] theorem State.setFree_inputs (x : Nat) : (s.setFree x).inputs = s.inputs := rfl
@[simp] theorem State.setFree_arbiter (x : Nat) : (s.setFree x).arbiter = s.arbiter := rfl
@[simp] theorem State.setFree_start (x : Nat) : (s.setFree x).start = s.start := rfl
@[simp] theorem State.setFree_trackers (x : Nat) : (s.setFree x).trackers = s.trackers := rfl
@[simp] theorem State.setFree_remainders (x : Nat) : (s.setFree x).remainders = s.remainders := rfl
@[simp] theorem State.setFree_table (x : Nat) : (s.setFree x).table = s.table := rfl
@[simp] theorem State.setFree_hire (x : Nat) : (s.setFree x).hire = s.hire := rfl
@[simp] theorem State.setFree_journal (x : Nat) : (s.setFree x).journal = s.journal := rfl
@[simp] theorem State.setFree_store (x : Nat) : (s.setFree x).store = s.store := rfl
@[simp] theorem State.setFree_notices (x : Nat) : (s.setFree x).notices = s.notices := rfl
@[simp] theorem State.setFree_link (x : Nat) : (s.setFree x).link = s.link := rfl
@[simp] theorem State.setFree_stream (x : Nat) : (s.setFree x).stream = s.stream := rfl
@[simp] theorem State.setFree_server (x : Nat) : (s.setFree x).server = s.server := rfl
@[simp] theorem State.setFree_free (x : Nat) : (s.setFree x).free = x := rfl
@[simp] theorem State.setFree_pending (x : Nat) : (s.setFree x).pending = s.pending := rfl
@[simp] theorem State.setPending_clock (x : List Instr) : (s.setPending x).clock = s.clock := rfl
@[simp] theorem State.setPending_control (x : List Instr) : (s.setPending x).control = s.control := rfl
@[simp] theorem State.setPending_profile (x : List Instr) : (s.setPending x).profile = s.profile := rfl
@[simp] theorem State.setPending_board (x : List Instr) : (s.setPending x).board = s.board := rfl
@[simp] theorem State.setPending_intake (x : List Instr) : (s.setPending x).intake = s.intake := rfl
@[simp] theorem State.setPending_inputs (x : List Instr) : (s.setPending x).inputs = s.inputs := rfl
@[simp] theorem State.setPending_arbiter (x : List Instr) : (s.setPending x).arbiter = s.arbiter := rfl
@[simp] theorem State.setPending_start (x : List Instr) : (s.setPending x).start = s.start := rfl
@[simp] theorem State.setPending_trackers (x : List Instr) : (s.setPending x).trackers = s.trackers := rfl
@[simp] theorem State.setPending_remainders (x : List Instr) : (s.setPending x).remainders = s.remainders := rfl
@[simp] theorem State.setPending_table (x : List Instr) : (s.setPending x).table = s.table := rfl
@[simp] theorem State.setPending_hire (x : List Instr) : (s.setPending x).hire = s.hire := rfl
@[simp] theorem State.setPending_journal (x : List Instr) : (s.setPending x).journal = s.journal := rfl
@[simp] theorem State.setPending_store (x : List Instr) : (s.setPending x).store = s.store := rfl
@[simp] theorem State.setPending_notices (x : List Instr) : (s.setPending x).notices = s.notices := rfl
@[simp] theorem State.setPending_link (x : List Instr) : (s.setPending x).link = s.link := rfl
@[simp] theorem State.setPending_stream (x : List Instr) : (s.setPending x).stream = s.stream := rfl
@[simp] theorem State.setPending_server (x : List Instr) : (s.setPending x).server = s.server := rfl
@[simp] theorem State.setPending_free (x : List Instr) : (s.setPending x).free = s.free := rfl
@[simp] theorem State.setPending_pending (x : List Instr) : (s.setPending x).pending = x := rfl

end

end Sys2Proof.Machine
end

