-- ==== Sys2Proof/Laws/Kept.lean ====
section
/-! SUPPORT. What the queues, the array port, the notice arbiter's frames, the running stream and the settling
after an event keep: one `Kept` lemma for each shared operation. -/

namespace Sys2Proof.Machine

/-! ## The relation -/

theorem headerKept_refl (u : Option HireHeader) : headerKept u u := .inl rfl

theorem headerKept_trans {u v w : Option HireHeader} (h : headerKept u v) (k : headerKept v w) :
    headerKept u w := by
  rcases h with rfl | rfl <;> rcases k with rfl | rfl
  · exact .inl rfl
  · exact .inr rfl
  · exact .inr rfl
  · right; cases u <;> rfl

theorem Kept.refl (s : State) : Kept s s :=
  { clock := rfl, profile := rfl, board := rfl, intake := rfl, inputs := rfl, arbiter := rfl
    start := rfl, trackers := rfl, remainders := rfl, notices := rfl, free := rfl, pending := rfl
    control := rfl, marks := rfl, due := rfl, counts := fun _ _ => ⟨rfl, rfl⟩, hire := rfl
    header := .inl rfl, nextSeq := rfl, staging := .refl _, storeState := rfl, failures := rfl
    attempted := rfl, ring := rfl, nextSlot := rfl, nextCheck := rfl, entries := fun _ => .inl rfl
    records := fun _ => .inl rfl, account := rfl, server := rfl, lost := rfl }

theorem Kept.trans {s t u : State} (h : Kept s t) (k : Kept t u) : Kept s u :=
  { clock := k.clock.trans h.clock, profile := k.profile.trans h.profile
    board := k.board.trans h.board, intake := k.intake.trans h.intake
    inputs := k.inputs.trans h.inputs, arbiter := k.arbiter.trans h.arbiter
    start := k.start.trans h.start, trackers := k.trackers.trans h.trackers
    remainders := k.remainders.trans h.remainders, notices := k.notices.trans h.notices
    free := k.free.trans h.free, pending := k.pending.trans h.pending
    control := k.control.trans h.control, marks := k.marks.trans h.marks, due := k.due.trans h.due
    counts := fun n hn => ⟨(k.counts n hn).1.trans (h.counts n hn).1, (k.counts n hn).2.trans (h.counts n hn).2⟩
    hire := k.hire.trans h.hire, header := headerKept_trans h.header k.header
    nextSeq := k.nextSeq.trans h.nextSeq, staging := k.staging.trans h.staging
    storeState := k.storeState.trans h.storeState, failures := k.failures.trans h.failures
    attempted := k.attempted.trans h.attempted, ring := k.ring.trans h.ring
    nextSlot := k.nextSlot.trans h.nextSlot, nextCheck := k.nextCheck.trans h.nextCheck
    entries := fun i => by
      rcases k.entries i with e | e
      · rw [e]; exact h.entries i
      · exact .inr e
    records := fun i => by
      rcases k.records i with e | e
      · rw [e]; exact h.records i
      · exact .inr e
    account := k.account.trans h.account, server := k.server.trans h.server, lost := k.lost.trans h.lost }

/-- Two steps, the second one first. -/
theorem Kept.after {s t u : State} (k : Kept t u) (h : Kept s t) : Kept s u := h.trans k

/-! ## Replacing one block -/

/-- The part of the retained store that the aftermath of an event keeps. -/
structure StoreKept (u t : Store) : Prop where
  state     : t.state = u.state
  failures  : t.failureCount = u.failureCount
  attempted : t.finalAttempted = u.finalAttempted
  ring      : t.ring = u.ring
  nextSlot  : t.nextSlot = u.nextSlot
  nextCheck : t.nextSeq = u.nextSeq
  entries   : ∀ i : Fin 256, t.journal[i] = u.journal[i] ∨ t.journal[i] = none
  records   : ∀ i : Fin 8, t.history[i] = u.history[i] ∨ t.history[i] = none

theorem Kept.setStore {s : State} {x : Store} (h : StoreKept s.store x) : Kept s (s.setStore x) :=
  { Kept.refl s with
    storeState := h.state, failures := h.failures, attempted := h.attempted, ring := h.ring
    nextSlot := h.nextSlot, nextCheck := h.nextCheck, entries := h.entries, records := h.records }

theorem Kept.setLink {s : State} {x : Link} (h : x.account = s.link.account) : Kept s (s.setLink x) :=
  { Kept.refl s with account := h }

theorem Kept.setServer {s : State} {x : Server} (h : x.withoutHeld = s.server.withoutHeld) :
    Kept s (s.setServer x) :=
  { Kept.refl s with server := h }

theorem Kept.setStream {s : State} {x : StreamEngine} (h : x.lost = s.stream.lost) :
    Kept s (s.setStream x) :=
  { Kept.refl s with lost := h }

theorem Kept.setControl {s : State} {x : Control} (h : x.withoutPark = s.control.withoutPark) :
    Kept s (s.setControl x) :=
  { Kept.refl s with control := h }

theorem Kept.setStaging {s : State} {x : Journal} (h : x.nextSeq = s.journal.nextSeq)
    (k : x.staging.Sublist s.journal.staging) : Kept s (s.setJournal x) :=
  { Kept.refl s with nextSeq := h, staging := k }

/-- The array port alone may change, with what waits for it. -/
theorem StoreKept.refl (u : Store) : StoreKept u u :=
  { state := rfl, failures := rfl, attempted := rfl, ring := rfl, nextSlot := rfl, nextCheck := rfl
    entries := fun _ => .inl rfl, records := fun _ => .inl rfl }

/-- A slot made invalid leaves every slot as it was or invalid. -/
theorem vector_set_none {α : Type} {n : Nat} (v : Vector (Option α) n) (i j : Fin n) :
    (v.set i none)[j] = v[j] ∨ (v.set i none)[j] = none := by
  by_cases h : i = j
  · right; subst h; simp
  · left
    have : i.val ≠ j.val := fun e => h (Fin.ext e)
    simp [this]

/-! ## Counts and flags -/

/-- An increment changes one counter alone. -/
theorem tableAdd_other (o : Bool) (n m : Fin 47) (a : Nat) (t : Table) (h : m ≠ n) :
    (tableAdd o n a t).life[m] = t.life[m] ∧ (tableAdd o n a t).hire[m] = t.hire[m] := by
  have : n.val ≠ m.val := fun e => h (Fin.ext e.symm)
  cases o <;> simp [tableAdd, this]

theorem tableAdd_marks (o : Bool) (n : Fin 47) (a : Nat) (t : Table) :
    (tableAdd o n a t).marks = t.marks := rfl

theorem tableAdd_due (o : Bool) (n : Fin 47) (a : Nat) (t : Table) :
    (tableAdd o n a t).due = t.due := rfl

theorem flagJournalDrop_eq (s : State) :
    s.flagJournalDrop = s
      ∨ s.flagJournalDrop = s.setHire { s.hire with
          header := s.hire.header.map fun h => { h with journalDrop := true } } := by
  unfold State.flagJournalDrop
  cases hh : s.hire.header with
  | none => exact .inl rfl
  | some h => by_cases k : s.hireOpen = true <;> simp [k]

theorem Kept.flagJournalDrop (s : State) : Kept s s.flagJournalDrop := by
  rcases flagJournalDrop_eq s with e | e
  · rw [e]; exact .refl s
  · rw [e]; exact { Kept.refl s with hire := rfl, header := .inr rfl }

theorem Kept.raiseDropped (s : State) (a : Nat) : Kept s (s.raise .journalDropped a) :=
  { Kept.refl s with counts := fun n hn => tableAdd_other _ _ n a s.table hn }

/-- A dropped entry (R112). -/
theorem Kept.countDrop (s : State) : Kept s s.countDrop :=
  (Kept.raiseDropped s 1).trans (Kept.flagJournalDrop _)

theorem Kept.stopPark (s : State) : Kept s s.stopPark := Kept.setControl rfl

/-! ## The array port (R126) -/

theorem Kept.queueJournal (s : State) : Kept s (queueJournal s) := by
  unfold Machine.queueJournal
  split
  · exact (Kept.stopPark _).after (Kept.setStore { StoreKept.refl s.store with })
  · exact .refl s

theorem Kept.endJournalJob (w : Bool) (s : State) : Kept s (endJournalJob w s) :=
  (Kept.queueJournal _).after (Kept.setStore { StoreKept.refl s.store with })

theorem Kept.unstage (seq : Nat) (s : State) : Kept s (unstage seq s) :=
  Kept.setStaging rfl List.filter_sublist

theorem Kept.grantFinal (j : FinalJob) (s : State) : Kept s (grantFinal j s) :=
  Kept.setStore { StoreKept.refl s.store with }

theorem Kept.grantCheckpoint (j : CheckpointJob) (s : State) : Kept s (grantCheckpoint j s) :=
  Kept.setStore { StoreKept.refl s.store with }

theorem Kept.noFurtherItem (s : State) : Kept s (noFurtherItem s) := by
  unfold Machine.noFurtherItem
  split
  · exact Kept.setStream rfl
  · exact .refl s

theorem Kept.grantJournalRead (s : State) : Kept s (grantJournalRead s) := by
  have h : Kept s (s.setStore { s.store with readPending := none }) :=
    Kept.setStore { StoreKept.refl s.store with }
  unfold Machine.grantJournalRead
  split
  · exact h
  · split
    · exact h.trans (Kept.noFurtherItem _)
    · dsimp only
      split
      · exact h.trans (Kept.noFurtherItem _)
      · exact h.trans (Kept.setStore { StoreKept.refl _ with })

theorem Kept.grantHireRead (i : Fin 8) (s : State) : Kept s (grantHireRead i s) :=
  Kept.setStore { StoreKept.refl s.store with }

theorem Kept.startHireRecord (s : State) : Kept s (startHireRecord s) := by
  unfold Machine.startHireRecord
  split
  · split
    · exact Kept.setStore { StoreKept.refl s.store with records := vector_set_none _ _ }
    · exact Kept.setStore { StoreKept.refl s.store with }
  · exact Kept.setStore { StoreKept.refl s.store with }

theorem Kept.continueJournal (j : JournalJob) (s : State) : Kept s (continueJournal j s) := by
  unfold Machine.continueJournal
  split
  · exact Kept.endJournalJob _ s
  · split
    · exact Kept.setStore { StoreKept.refl s.store with entries := vector_set_none _ _ }
    · have h := fun q => (Kept.unstage q s).trans (Kept.countDrop (Machine.unstage q s))
      dsimp only
      split
      · exact (Kept.endJournalJob _ _).after ((h _).trans (Kept.setStore { StoreKept.refl _ with }))
      · exact (h _).trans (Kept.setStore { StoreKept.refl _ with })

theorem Kept.startJournal (s : State) : Kept s (startJournal s) :=
  (Kept.continueJournal _ _).after (Kept.setStore { StoreKept.refl s.store with })

theorem Kept.choosePort (s : State) : Kept s (choosePort s) := by
  unfold Machine.choosePort
  dsimp only
  split
  · split
    · exact Kept.grantFinal _ s
    · exact .refl s
  split
  · split
    · exact Kept.grantJournalRead s
    · exact Kept.grantHireRead _ s
    · exact .refl s
  split
  · exact Kept.startHireRecord s
  split
  · split
    · exact Kept.continueJournal _ s
    · exact .refl s
  split
  · exact Kept.startJournal s
  split
  · split
    · exact Kept.grantCheckpoint _ s
    · exact .refl s
  · exact .refl s

theorem Kept.grantLoop (n : Nat) (s : State) : Kept s (grantLoop n s) := by
  induction n generalizing s with
  | zero => exact .refl s
  | succ n ih =>
    unfold Machine.grantLoop
    split
    · exact (Kept.choosePort s).trans (ih _)
    · exact .refl s

/-- The arbiter of the array port (R126). -/
theorem Kept.grantPort (s : State) : Kept s (grantPort s) := Kept.grantLoop 64 s

theorem Kept.queueCheckpoint (k : CheckpointKind) (p r : Bool) (s : State) :
    Kept s (queueCheckpoint k p r s) :=
  (Kept.stopPark _).after (Kept.setStore { StoreKept.refl s.store with })

/-- A PERIODIC or EVENT trigger (R124, R125). -/
theorem Kept.checkpointTrigger (k : CheckpointKind) (s : State) : Kept s (checkpointTrigger k s) := by
  unfold Machine.checkpointTrigger
  split
  · exact .refl s
  · exact (Kept.grantPort _).after (Kept.queueCheckpoint _ _ _ s)

theorem Kept.standForTrigger (p r : Bool) (s : State) : Kept s (standForTrigger p r s) := by
  unfold Machine.standForTrigger
  split
  · exact Kept.setStore { StoreKept.refl s.store with }
  · split
    · exact Kept.setStore { StoreKept.refl s.store with }
    · exact (Kept.stopPark _).after (Kept.setStore { StoreKept.refl s.store with })

/-- A PARK trigger (R125, R132). -/
theorem Kept.parkTrigger (s : State) : Kept s (parkTrigger s) := by
  unfold Machine.parkTrigger
  split
  · exact .refl s
  · split
    · exact (Kept.grantPort _).after (Kept.standForTrigger _ _ s)
    · exact (Kept.grantPort _).after (Kept.queueCheckpoint _ _ _ s)

/-- A RESTART trigger (R125, R132). -/
theorem Kept.restartTrigger (s : State) : Kept s (restartTrigger s) := by
  unfold Machine.restartTrigger
  split
  · exact .refl s
  · split
    · exact (Kept.grantPort _).after (Kept.standForTrigger _ _ s)
    · exact (Kept.grantPort _).after (Kept.queueCheckpoint _ _ _ s)

/-! ## Creating an entry (R110 to R113) -/

/-- The journal's working memory when an entry has been created and nothing else has happened: numbered and
staged, numbered and dropped, or dropped without a number. -/
def createdJournal (j : Journal) (e : Entry) : Journal :=
  if ceiling ≤ j.nextSeq then j
  else if j.staging.length < Config.stagingPlaces then
    { staging := j.staging ++ [e], nextSeq := j.nextSeq + 1 }
  else { j with nextSeq := j.nextSeq + 1 }

/-- All that the staging of an entry does (R110 to R113). -/
theorem Kept.stageEntry (k : EntryKind) (m : Option Nat) (a b : Nat) (s : State) :
    Kept (s.setJournal (createdJournal s.journal (s.makeEntry k m a b))) (stageEntry k m a b s) := by
  unfold Machine.stageEntry createdJournal
  split
  · exact Kept.countDrop s
  · split
    · exact Kept.queueJournal _
    · exact Kept.countDrop _

/-- All that the creation of an entry does (R110 to R113, R126). -/
theorem Kept.createEntry (k : EntryKind) (m : Option Nat) (a b : Nat) (s : State) :
    Kept (s.setJournal (createdJournal s.journal (s.makeEntry k m a b))) (createEntry k m a b s) :=
  (Kept.stageEntry k m a b s).trans (Kept.grantPort _)

/-! ## The outgoing queues (R158, R159, R165, R172) -/

theorem Kept.drainHeld (s : State) : Kept s (drainHeld s) :=
  Kept.after (Kept.setLink rfl) (Kept.setServer rfl)

theorem Kept.askNext (r : RunningStream) (s : State) : Kept s (askNext r s) := by
  unfold Machine.askNext
  split
  · split
    · exact Kept.noFurtherItem s
    · exact (Kept.grantPort _).after (Kept.setStore { StoreKept.refl s.store with })
  · exact Kept.noFurtherItem s

theorem Kept.handStream (s : State) : Kept s (handStream s) := by
  unfold Machine.handStream
  split
  · exact .refl s
  · split
    · have h : ∀ (l : Link) (e : StreamEngine), l.account = s.link.account → e.lost = s.stream.lost →
          Kept s ((s.setLink l).setStream e) := fun l e hl he =>
        (Kept.setLink hl).trans (Kept.setStream he)
      dsimp only
      split
      · exact (Kept.askNext _ _).after (h _ _ rfl rfl)
      · exact h _ _ rfl rfl
    · exact .refl s

/-- The choice of the next frame (R159). -/
theorem Kept.takeFrame (s : State) : Kept s (takeFrame s) := by
  unfold Machine.takeFrame
  split
  · exact .refl s
  · split
    · exact (Kept.drainHeld _).after (Kept.setLink rfl)
    · exact Kept.setLink rfl
    · exact Kept.setLink rfl
    · split
      · exact (Kept.handStream _).after (Kept.setLink rfl)
      · exact .refl s
    · exact .refl s

theorem Kept.placeAnswers (fs : List OutFrame) (s : State) : Kept s (placeAnswers fs s) :=
  (Kept.takeFrame _).after (Kept.setLink rfl)

theorem Kept.oweAnswer (f : OutFrame) (s : State) : Kept s (oweAnswer f s) :=
  (Kept.takeFrame _).after ((Kept.drainHeld _).after (Kept.setServer rfl))

/-- The end of a closing changes the hire state and places the deferred answer, and nothing else. -/
theorem Kept.finishClosing (e : ClosingEnd) (s : State) :
    Kept (s.setHire s.hire.closed) (finishClosing e s) := by
  unfold Machine.finishClosing
  split
  · exact Kept.oweAnswer _ _
  · exact .refl _

/-- A pass that runs keeps the end of a closing waiting (R44); otherwise it is taken. -/
theorem endClosing_pass {s : State} (e : ClosingEnd) (h : s.arbiter.unit = .pass) :
    endClosing e s = s.setHire { s.hire with ending := some e } := if_pos h

theorem endClosing_finish {s : State} (e : ClosingEnd) (h : s.arbiter.unit ≠ .pass) :
    endClosing e s = finishClosing e s := if_neg h

theorem takeEnding_none {s : State} (h : s.hire.ending = none) : takeEnding s = s := by
  simp [takeEnding, h]

theorem takeEnding_some {s : State} {e : ClosingEnd} (h : s.hire.ending = some e) :
    takeEnding s = finishClosing e s := by simp [takeEnding, h]

theorem Kept.offerNotice (f : OutFrame) (s : State) : Kept s (offerNotice f s) :=
  (Kept.takeFrame _).after (Kept.setLink rfl)

theorem Kept.offerSummary (f : OutFrame) (s : State) : Kept s (offerSummary f s) :=
  (Kept.takeFrame _).after (Kept.setLink rfl)

/-! ## The stream engine (R171, R172) -/

theorem Kept.beginStream (k : StreamKind) (token : Nat) (s : State) : Kept s (beginStream k token s) :=
  Kept.after (Kept.setStream rfl) (Kept.setControl rfl)

theorem Kept.startJournalStream (token start count : Nat) (s : State) :
    Kept s (startJournalStream token start count s) :=
  (Kept.grantPort _).after (Kept.after (Kept.setStore { StoreKept.refl _ with }) (Kept.beginStream _ _ s))

theorem Kept.loadItem (p : StreamPart) (n : Nat) (q : Option Nat) (b : List Byte) (s : State) :
    Kept s (loadItem p n q b s) := by
  unfold Machine.loadItem
  split
  · exact .refl s
  · exact (Kept.handStream _).after (Kept.setStream rfl)

theorem Kept.recordMissing (s : State) : Kept s (recordMissing s) := by
  unfold Machine.recordMissing
  split
  · exact .refl s
  · exact (Kept.oweAnswer _ _).after (Kept.setStream rfl)

theorem Kept.askHire (c : HireChoice) (s : State) : Kept s (askHire c s) := by
  unfold Machine.askHire
  split
  · exact Kept.loadItem _ _ _ _ s
  · split
    · split
      · exact Kept.loadItem _ _ _ _ s
      · exact Kept.recordMissing s
    · exact Kept.recordMissing s
  · exact (Kept.grantPort _).after (Kept.setStore { StoreKept.refl s.store with })

theorem Kept.startHireStream (token : Nat) (c : HireChoice) (s : State) :
    Kept s (startHireStream token c s) :=
  (Kept.askHire _ _).after (Kept.beginStream _ _ s)

theorem Kept.completeStream (r : RunningStream) (s : State) : Kept s (completeStream r s) := by
  unfold Machine.completeStream
  have h := Kept.oweAnswer (endAnswer s r .done) s
  dsimp only
  split
  · exact h.trans (Kept.setStream rfl)
  · have h' := h.trans (Kept.setStream (s := Machine.oweAnswer (endAnswer s r .done) s)
      (x := { (Machine.oweAnswer (endAnswer s r .done) s).stream with continuation := none }) rfl)
    split
    · exact h'.trans (Kept.startJournalStream _ _ _ _)
    · exact (Kept.oweAnswer _ _).after (Kept.after (Kept.setStream rfl) h')

theorem Kept.settleStreams (n : Nat) (s : State) : Kept s (settleStreams n s) := by
  induction n generalizing s with
  | zero => exact .refl s
  | succ n ih =>
    unfold Machine.settleStreams
    split
    · exact .refl s
    · split
      · exact (Kept.completeStream _ s).trans (ih _)
      · exact .refl s

theorem Kept.parkUpdate (s : State) : Kept s (parkUpdate s) := Kept.setControl rfl

/-! ## Settling -/

theorem Kept.withFree {s t : State} (h : Kept s t) (n : Nat) : Kept (s.setFree n) (t.setFree n) :=
  { h with free := rfl }

/-- No DEPOT RESTART is carried out where none is asked for (R186). -/
theorem restartCheck_idle {s : State} (h : s.control.restart = none) : restartCheck s = s := by
  unfold restartCheck; rw [h]

/-- All that follows an event where no DEPOT RESTART is asked for. -/
theorem settle_left (s : State) (h : s.control.restart = none) : Left s (settle s) := by
  have k : Kept s (Machine.parkUpdate (Machine.takeFrame (Machine.settleStreams 2 (Machine.drainHeld s)))) :=
    (((Kept.drainHeld s).trans (Kept.settleStreams 2 _)).trans (Kept.takeFrame _)).trans (Kept.parkUpdate _)
  unfold Left settle countFree
  rw [restartCheck_idle h, k.free]
  exact k.withFree (s.free + 1)

end Sys2Proof.Machine
end

