-- ==== Sys2Proof/Laws/Answers.lean ====
section
/-! SUPPORT. The answers under way only grow at their end: what each operation of the outgoing side does to
`answersOut`, and what the whole aftermath of an event does to it. -/

namespace Sys2Proof.Machine

/-- The answers under way in `s` are the first of those under way in `t`. -/
def Behind (s t : State) : Prop := answersOut s.link <+: answersOut t.link

theorem Behind.refl (s : State) : Behind s s := List.prefix_refl _

theorem Behind.trans {s t u : State} (h : Behind s t) (k : Behind t u) : Behind s u :=
  List.IsPrefix.trans h k

/-- Operations that leave the link unit alone. -/
theorem Behind.of_link {s t : State} (h : t.link = s.link) : Behind s t := by
  unfold Behind; rw [h]

/-- Operations that leave transmitter and ANSWER queue alone. -/
theorem Behind.of_queue {s t : State} (h : t.link.transmitter = s.link.transmitter)
    (k : t.link.answers = s.link.answers) : Behind s t := by
  unfold Behind answersOut transmitted; rw [h, k]

theorem drainInto_prefix (n : Nat) (l a : List OutFrame) : a <+: (drainInto n l a).2 := by
  induction l generalizing a with
  | nil => exact List.prefix_refl _
  | cons f l ih =>
    unfold drainInto
    split
    · exact (List.prefix_append a [f]).trans (ih _)
    · exact List.prefix_refl _

/-- No held answer is lost: what was held is placed or still held, in order (R165). -/
theorem drainInto_append (n : Nat) (l a : List OutFrame) :
    (drainInto n l a).2 ++ (drainInto n l a).1 = a ++ l := by
  induction l generalizing a with
  | nil => simp [drainInto]
  | cons f l ih =>
    unfold drainInto
    split
    · rw [ih]; simp
    · rfl

theorem Behind.drainHeld (s : State) : Behind s (drainHeld s) := by
  unfold Behind answersOut
  exact List.prefix_append_right_inj _ |>.mpr (drainInto_prefix _ _ _)

/-- The array port never touches the link unit. -/
theorem grantPort_link (s : State) : (grantPort s).link = s.link := by
  have loop : ∀ (n : Nat) (s : State), (grantLoop n s).link = s.link := by
    have queue : ∀ s : State, (queueJournal s).link = s.link := fun s => by
      unfold queueJournal; split <;> rfl
    have drop : ∀ s : State, s.countDrop.link = s.link := fun s => by
      unfold State.countDrop State.flagJournalDrop; split
      · split <;> rfl
      · rfl
    have cont : ∀ (j : JournalJob) (s : State), (continueJournal j s).link = s.link := fun j s => by
      unfold continueJournal; split
      · exact queue _
      · split
        · rfl
        · dsimp only; split
          · exact (queue _).trans (drop _)
          · exact drop _
    have choose : ∀ s : State, (choosePort s).link = s.link := fun s => by
      unfold choosePort; dsimp only
      split
      · split <;> rfl
      split
      · split
        · unfold grantJournalRead noFurtherItem; dsimp only
          split
          · rfl
          · split
            · split <;> rfl
            · split
              · split <;> rfl
              · rfl
        · rfl
        · rfl
      split
      · unfold startHireRecord; split
        · split <;> rfl
        · rfl
      split
      · split
        · exact cont _ _
        · rfl
      split
      · exact cont _ _
      split
      · split <;> rfl
      · rfl
    intro n
    induction n with
    | zero => intro s; rfl
    | succ n ih =>
      intro s; unfold grantLoop; split
      · exact (ih _).trans (choose s)
      · rfl
  exact loop 64 s

theorem askNext_link (r : RunningStream) (s : State) : (askNext r s).link = s.link := by
  have more : (noFurtherItem s).link = s.link := by unfold noFurtherItem; split <;> rfl
  unfold askNext
  split
  · split
    · exact more
    · exact (grantPort_link _).trans rfl
  · exact more

theorem Behind.handStream (s : State) : Behind s (handStream s) := by
  unfold Machine.handStream
  split
  · exact .refl s
  · split
    · dsimp only; split
      · refine Behind.trans ?_ (Behind.of_link (askNext_link _ _))
        exact Behind.of_queue rfl rfl
      · exact .of_queue rfl rfl
    · exact .refl s

/-- Only an answer joins the answers under way, and it was the first of the ANSWER queue. -/
theorem Behind.takeFrame (s : State) (h : ∀ f ∈ s.link.answers, isAnswer f.kind = true) :
    Behind s (takeFrame s) := by
  unfold Machine.takeFrame
  split
  · exact .refl s
  next hc =>
    have hx : s.link.transmitter = none := by
      cases ht : s.link.transmitter with
      | none => rfl
      | some x => simp [ht] at hc
    have empty : s.link.answers = [] → ∀ t : State, Behind s t := fun ha t => by
      unfold Behind answersOut transmitted; simp [hx, ha]
    split
    · next f rest ha =>
      have hf : isAnswer f.kind = true := h f (by simp [ha])
      refine Behind.trans ?_ (Behind.drainHeld _)
      unfold Behind answersOut transmitted loadTransmitter
      simp [hx, ha, hf]
    · next ha _ => exact empty ha _
    · next ha _ _ => exact empty ha _
    · next ha _ _ _ =>
      split
      · exact empty ha _
      · exact .refl s
    · exact .refl s

/-- Answers placed in their reserved places stand behind those under way (R164). -/
theorem placeAnswers_placed (fs : List OutFrame) (s : State)
    (h : ∀ f ∈ s.link.answers ++ fs, isAnswer f.kind = true) : Placed fs s (placeAnswers fs s) := by
  have k := Behind.takeFrame (s.setLink { s.link with answers := s.link.answers ++ fs }) h
  unfold Behind at k
  unfold Placed placeAnswers
  refine List.IsPrefix.trans ?_ k
  unfold answersOut transmitted
  simp

/-! ## The end of a request's step, and of an attempt in STARTING -/

/-- A request whose step holds the arithmetic unit keeps its answer built until STEP_COMPLETE (R44, R164). -/
theorem answer_in_step (fs : List OutFrame) (s : State) (h : s.arbiter.unit = .step .request) :
    answer fs s = s.setServer { s.server with built := fs } := by
  simp [answer, h]

/-- Any other request ends now (R164). -/
theorem answer_at_once (fs : List OutFrame) (s : State) (h : s.arbiter.unit ≠ .step .request) :
    answer fs s = endRequest fs s := by
  simp [answer, h]

/-- The end of a request's step places its frames behind the answers under way (R164). -/
theorem endRequest_placed (fs : List OutFrame) (s : State)
    (h : ∀ f ∈ s.link.answers ++ fs, isAnswer f.kind = true) : Placed fs s (endRequest fs s) :=
  placeAnswers_placed fs (dropHead (s.setServer { s.server with built := [] })) h

/-- Outside STARTING the end of an attempt sets nothing more. -/
theorem attemptOver_awake (s : State) (h : s.control.mode ≠ .starting) : attemptOver s = s := by
  simp [attemptOver, h]

/-- In STARTING the end of the attempt sets the link unit (R162). -/
theorem attemptOver_starting (s : State) (h : s.control.mode = .starting) :
    attemptOver s = s.setLink { Link.reset with drive := s.link.drive } := by
  simp [attemptOver, h]

@[simp] theorem Link.completing_transmitter (l : Link) : l.completing.transmitter = l.transmitter := rfl
@[simp] theorem Link.completing_state (l : Link) : l.completing.state = l.state := rfl
@[simp] theorem Link.completing_participation (l : Link) : l.completing.participation = .leaving := rfl
@[simp] theorem Link.completing_answers (l : Link) : l.completing.answers = [] := rfl
@[simp] theorem Link.completing_completing (l : Link) : l.completing.completing = l.completing := rfl

/-- An attempt that lingered has ended: nothing lingers. -/
theorem Participation.cleared_lingers (p : Participation) : p.cleared.lingers = false := by
  cases p <;> rfl

end Sys2Proof.Machine
end

