-- ==== Sys2Proof/Laws/Notices.lean ====
section
/-! SUPPORT. What the operations of the notice arbiter do: the choice, and that they change the arbiter, the
outgoing queues and nothing else. -/

namespace Sys2Proof.Machine

/-- Only the notice arbiter, with the aftermath's queues, changes from `s` to `t`. -/
def NoticesOnly (s t : State) : Prop := Kept (s.setNotices t.notices) t

theorem NoticesOnly.refl (s : State) : NoticesOnly s s := Kept.refl s

theorem Kept.setNoticesBoth {s t : State} (h : Kept s t) (n : Notices) :
    Kept (s.setNotices n) (t.setNotices n) :=
  { h with notices := rfl }

theorem NoticesOnly.trans {s t u : State} (h : NoticesOnly s t) (k : NoticesOnly t u) :
    NoticesOnly s u :=
  (Kept.setNoticesBoth h u.notices).trans k

theorem NoticesOnly.setNotices (s : State) (n : Notices) : NoticesOnly s (s.setNotices n) :=
  Kept.refl _

/-- Operations of the outgoing side leave the arbiter as it was. -/
theorem NoticesOnly.of_kept {s t : State} (h : Kept s t) : NoticesOnly s t := by
  unfold NoticesOnly; rw [h.notices]; exact h

theorem NoticesOnly.queueNotice (s : State) : NoticesOnly s (queueNotice s) := by
  refine NoticesOnly.trans ?_ (.of_kept (Kept.offerNotice _ _))
  exact NoticesOnly.setNotices s _

theorem NoticesOnly.choose (s : State) : NoticesOnly s (choose s) := by
  have h : NoticesOnly s (updateLamp (present s)) :=
    (NoticesOnly.setNotices s _).trans (NoticesOnly.setNotices _ _)
  unfold Machine.choose
  dsimp only
  split
  · exact h
  · split
    · exact h.trans (NoticesOnly.queueNotice _)
    · exact h

theorem NoticesOnly.setCondition (n : Fin 14) (s : State) : NoticesOnly s (setCondition n s) := by
  unfold Machine.setCondition
  split
  · exact .refl s
  · have h := NoticesOnly.setNotices s { s.notices with conditions := s.notices.conditions.set n true }
    dsimp only
    split
    · exact h
    · split
      · exact h.trans (NoticesOnly.choose _)
      · split
        · exact h.trans (NoticesOnly.choose _)
        · exact h

theorem NoticesOnly.clearCondition (n : Fin 14) (s : State) : NoticesOnly s (clearCondition n s) := by
  unfold Machine.clearCondition
  split
  · have h := NoticesOnly.setNotices s { s.notices with conditions := s.notices.conditions.set n false }
    dsimp only
    split
    · exact h.trans (NoticesOnly.choose _)
    · exact h
  · exact .refl s

theorem NoticesOnly.setPulse (p : PulseSource) (s : State) : NoticesOnly s (setPulse p s) :=
  (NoticesOnly.setNotices s _).trans (NoticesOnly.setCondition _ _)

theorem NoticesOnly.endDwell (s : State) : NoticesOnly s (endDwell s) := by
  have h := NoticesOnly.setNotices s { s.notices with dwell := none }
  unfold Machine.endDwell
  dsimp only
  split
  · exact h
  · split
    · exact h.trans (NoticesOnly.choose _)
    · exact h

/-! ## The choice (R143) -/

/-- The fold behind the choice: what it returns is eligible and outranks every eligible source seen. -/
theorem bestSource_chosen (p : Profile) (cond : Vector Bool 14) : Chosen p cond (bestSource p cond) := by
  let good (l : List (Fin 14)) (o : Option (Fin 14)) : Prop :=
    match o with
    | none => ∀ m ∈ l, eligible p cond m = false
    | some n => eligible p cond n = true ∧ n ∈ l ∧ ∀ m ∈ l, eligible p cond m = true →
        levelOf p m < levelOf p n ∨ (levelOf p m = levelOf p n ∧ m ≤ n)
  let pick (best : Option (Fin 14)) (n : Fin 14) : Option (Fin 14) :=
    if eligible p cond n then
      match best with
      | none => some n
      | some b => if levelOf p b ≤ levelOf p n then some n else some b
    else best
  have fold : ∀ (l done : List (Fin 14)) (o : Option (Fin 14)), (done ++ l).Pairwise (· < ·) →
      good done o → good (done ++ l) (l.foldl pick o) := by
    intro l
    induction l with
    | nil => intro done o _ h; simpa using h
    | cons n l ih =>
      intro done o hp h
      have hp' : ((done ++ [n]) ++ l).Pairwise (· < ·) := by simpa using hp
      have below : ∀ m ∈ done, m < n := fun m hm =>
        (List.pairwise_append.mp hp).2.2 m hm n (by simp)
      have next : good (done ++ [n]) (pick o n) := by
        unfold pick
        by_cases he : eligible p cond n = true
        · cases o with
          | none =>
            simp only [he, if_true]
            refine ⟨he, by simp, fun m hm hm' => ?_⟩
            rcases List.mem_append.mp hm with k | k
            · have := h m k; simp [this] at hm'
            · have : m = n := by simpa using k
              subst this; exact .inr ⟨rfl, le_refl _⟩
          | some b =>
            obtain ⟨hb, hbd, hall⟩ := h
            by_cases hl : levelOf p b ≤ levelOf p n
            · simp only [he, hl, if_true]
              refine ⟨he, by simp, fun m hm hm' => ?_⟩
              rcases List.mem_append.mp hm with k | k
              · rcases hall m k hm' with a | a
                · exact .inl (by omega)
                · have := below m k
                  rcases Nat.lt_or_ge (levelOf p m) (levelOf p n) with c | c
                  · exact .inl c
                  · exact .inr ⟨by omega, le_of_lt this⟩
              · have : m = n := by simpa using k
                subst this; exact .inr ⟨rfl, le_refl _⟩
            · simp only [he, hl, if_true, if_false]
              refine ⟨hb, by simp [hbd], fun m hm hm' => ?_⟩
              rcases List.mem_append.mp hm with k | k
              · exact hall m k hm'
              · have : m = n := by simpa using k
                subst this; exact .inl (by omega)
        · simp only [he]
          cases o with
          | none =>
            intro m hm
            rcases List.mem_append.mp hm with k | k
            · exact h m k
            · have : m = n := by simpa using k
              subst this; simpa using he
          | some b =>
            obtain ⟨hb, hbd, hall⟩ := h
            refine ⟨hb, by simp [hbd], fun m hm hm' => ?_⟩
            rcases List.mem_append.mp hm with k | k
            · exact hall m k hm'
            · have : m = n := by simpa using k
              subst this; exact absurd hm' he
      have := ih (done ++ [n]) _ hp' next
      simpa using this
  have h := fold (List.finRange 14) [] none (by decide) (by intro m hm; cases hm)
  change Chosen p cond ((List.finRange 14).foldl pick none)
  generalize (List.finRange 14).foldl pick none = o at h ⊢
  cases o with
  | none => exact fun m => h m (by simp)
  | some n => exact ⟨h.1, fun m hm => h.2.2 m (by simp) hm⟩

end Sys2Proof.Machine
end

