-- ==== Sys2Proof/Laws/Board.lean ====
section
/-! SUPPORT. Reading and replacing the slots of the signal board, and the origins of a slot. -/

namespace Sys2Proof.Machine

theorem Signal.code_injective {a b : Signal} (h : a.code = b.code) : a = b := by
  revert h; cases a <;> cases b <;> decide

@[simp] theorem putSlot_slot (sig : Signal) (sl : Slot) (s : State) : (putSlot sig sl s).slot sig = sl := by
  simp [putSlot, State.slot]

theorem putSlot_slot_other {sig k : Signal} (sl : Slot) (s : State) (h : k ≠ sig) :
    (putSlot sig sl s).slot k = s.slot k := by
  have : sig.code.val ≠ k.code.val := fun e => h (Signal.code_injective (Fin.ext e.symm))
  simp [putSlot, State.slot, this]

@[simp] theorem Slot.setOrigin_origin (sl : Slot) (o : Origin) (r : Rank) : (sl.setOrigin o r).origin r = o := by
  cases r <;> rfl

theorem Slot.setOrigin_origin_other (sl : Slot) (o : Origin) {r k : Rank} (h : k ≠ r) :
    (sl.setOrigin o r).origin k = sl.origin k := by
  cases r <;> cases k <;> first | rfl | exact absurd rfl h

@[simp] theorem Slot.setOrigin_state (sl : Slot) (o : Origin) (r : Rank) : (sl.setOrigin o r).state = sl.state := by
  cases r <;> rfl

@[simp] theorem Slot.setOrigin_effective (sl : Slot) (o : Origin) (r : Rank) :
    (sl.setOrigin o r).effective = sl.effective := by cases r <;> rfl

@[simp] theorem slotFresh_origin (r k : Rank) (v : Value) (sl : Slot) :
    (slotFresh r v sl).origin k = sl.origin k := by
  unfold slotFresh
  cases r with
  | primary => cases k <;> rfl
  | alternate => dsimp only; split <;> cases k <;> rfl

/-- A fresh primary report is always believed (R19). -/
theorem slotFresh_primary (v : Value) (sl : Slot) :
    (slotFresh .primary v sl).state = .freshPrimary ∧ (slotFresh .primary v sl).effective = some v :=
  ⟨rfl, rfl⟩

/-- Everything an expiry of an origin can do to its slot's state (R19). -/
theorem slotExpired_cases (now : Nat) (r : Rank) (sl : Slot) :
    (r = .primary ∧ sl.state = .freshPrimary ∧ sl.alternate.fresh = true
        ∧ slotExpired now r sl = { sl with state := .freshAlternate, effective := sl.alternate.value })
      ∨ (((r = .primary ∧ sl.state = .freshPrimary ∧ sl.alternate.fresh = false)
            ∨ (r = .alternate ∧ sl.state = .freshAlternate))
          ∧ slotExpired now r sl = { sl with state := .held, holdTimer := some (now + Config.slotHoldUs) })
      ∨ (¬ (r = .primary ∧ sl.state = .freshPrimary) ∧ ¬ (r = .alternate ∧ sl.state = .freshAlternate)
          ∧ slotExpired now r sl = sl) := by
  cases r <;> cases hs : sl.state <;> cases hf : sl.alternate.fresh <;> simp [slotExpired, hs, hf]

/-- The clamping of a scaled value leaves it in its signal's range (R12). -/
theorem intoRange_valueIn (sig : Signal) (v : Int) : valueIn sig (intoRange sig v).1 := by
  cases sig <;> simp only [intoRange] <;>
    first
    | (split <;> simp [valueIn, rangeOf] <;> omega)
    | (simp only [valueIn, rangeOf, clampInt]; omega)

end Sys2Proof.Machine
end

