-- ==== Sys2Proof/Laws/ConfigMemory.lean ====
section
/-! SUPPORT. What the reads of the configuration memory give: the image that the part takes is the memory's own. -/

namespace Sys2Proof.Machine

@[simp] theorem wordAddressOf_wordAddressBytes {a : Nat} (h : a < 65536) :
    wordAddressOf (wordAddressBytes a) = a := by
  simp [wordAddressOf, wordAddressBytes]
  omega

/-- A sequential read gives the memory's bytes from the word address on. -/
theorem memoryGives_eq (mem : List Byte) {a : Nat} (n : Nat) (h : a < 65536) :
    memoryGives mem (wordAddressBytes a) n
      = (List.range n).map fun i => BitVec.ofNat 8 (memoryByteAt mem (a + i)) := by
  simp [memoryGives, h]

/-- What a read brings does not depend on the attempts that it took. -/
theorem readMemory_bytes {mem : List Byte} {a n : Nat} {tries : Nat} {acks : List Bool} {l : List Byte}
    (h : (readMemory mem a n tries acks).bytes = some l) : l = memoryGives mem (wordAddressBytes a) n := by
  induction tries generalizing acks with
  | zero => simp [readMemory] at h
  | succ k ih =>
    unfold readMemory at h
    split at h
    · exact ih h
    · exact ih h
    · exact (Option.some.inj h).symm

/-- A byte of the image read is the byte of the memory. -/
theorem memoryByteAt_ofNat (mem : List Byte) (i : Nat) :
    (BitVec.ofNat 8 (memoryByteAt mem i)).toNat = memoryByteAt mem i := by
  simp [memoryByteAt]

/-- The first `n` bytes of the memory come as a header and a rest. -/
theorem imageBytes_split (mem : List Byte) {k n : Nat} (h : k ≤ n) :
    imageBytes mem n
      = imageBytes mem k ++ (List.range (n - k)).map fun i => BitVec.ofNat 8 (memoryByteAt mem (k + i)) := by
  obtain ⟨m, rfl⟩ := Nat.exists_eq_add_of_le h
  simp [imageBytes, List.range_add, Function.comp_def]

/-- The header read gives the image length of the memory. -/
theorem imageLength_imageBytes (mem : List Byte) : imageLength (imageBytes mem 3) = imageLength mem := by
  simp [imageLength, imageBytes, memoryByteAt, List.range_succ]

/-- The image that the two reads bring is the memory's header, and the rest up to the image length. -/
theorem readImage_bytes {m : MemoryAnswer} {img : List Byte} (h : (readImage m).image = some img) :
    img = imageBytes m.image (max 3 (imageLength m.image)) := by
  have header_eq : ∀ {l : List Byte}, (readMemory m.image 0 3 3 m.acks).bytes = some l →
      l = imageBytes m.image 3 := fun hl => by
    rw [readMemory_bytes hl, memoryGives_eq _ _ (by decide)]
    simp [imageBytes]
  unfold readImage at h
  dsimp only at h
  split at h
  · cases h
  · rename_i header hh
    obtain rfl := header_eq hh
    rw [imageLength_imageBytes] at h
    split at h
    · rw [Nat.max_eq_left ‹_›]
      exact (Option.some.inj h).symm
    · obtain ⟨rest, hr, rfl⟩ := Option.map_eq_some_iff.mp h
      rw [readMemory_bytes hr, memoryGives_eq _ _ (by decide), Nat.max_eq_right (by omega),
        ← imageBytes_split _ (by omega)]

/-- R184: with no finding, the image in use is the memory's first L bytes. -/
theorem readProfile_image {m : MemoryAnswer} (h : imageFinding m = none) :
    (readProfile m).image = some (imageBytes m.image (imageLength m.image)) := by
  unfold imageFinding at h
  split at h
  · cases h
  · rename_i img hi
    have hr : (readImage m).image = some img := by
      unfold readProfile at hi
      split at hi
      · cases hi
      · exact hi
    have himg := readImage_bytes hr
    have hlen : imageLength img = imageLength m.image := by
      rw [himg]
      rw [imageBytes_split m.image (Nat.le_max_left 3 (imageLength m.image))]
      simp [imageLength, imageBytes, memoryByteAt, List.range_succ]
    have hbig : 3 ≤ imageLength m.image := by
      by_contra hs
      rw [imageFault, hlen, if_pos (Or.inl (by omega))] at h
      cases h
    rw [hi, himg, Nat.max_eq_right hbig]

end Sys2Proof.Machine
end

