-- ==== Sys2Proof/Laws/Events.lean ====
section
/-! SUPPORT. What an event and an expiry answer: the frame in which every command's meaning stands. -/

namespace Sys2Proof.Machine

theorem event_powered {s : State} (dt : Nat) (f : State → State) (h : s.control.powered = true) :
    event dt f s = .next (settle (f (s.advance dt))) := by simp [event, h]

theorem event_unpowered {s : State} (dt : Nat) (f : State → State) (h : s.control.powered = false) :
    event dt f s = .next (s.advance dt) := by simp [event, h]

theorem expiry_stopped (f : State → State) (s : State) : expiry none f s = .next s := rfl

theorem expiry_powered {s : State} (d : Nat) (f : State → State) (h : s.control.powered = true) :
    expiry (some d) f s = .next (settle (f (s.advanceTo d))) := by simp [expiry, h]

/-- The one inversion lemma of an event. -/
theorem event_cases {dt : Nat} {f : State → State} {s t : State} (h : event dt f s = .next t) :
    (s.control.powered = true ∧ t = settle (f (s.advance dt)))
      ∨ (s.control.powered = false ∧ t = s.advance dt) := by
  cases hp : s.control.powered
  · rw [event_unpowered dt f hp] at h; cases h; exact .inr ⟨rfl, rfl⟩
  · rw [event_powered dt f hp] at h; cases h; exact .inl ⟨rfl, rfl⟩

/-- The one inversion lemma of an expiry. -/
theorem expiry_cases {x : Timer} {f : State → State} {s t : State} (h : expiry x f s = .next t) :
    (∃ d, x = some d ∧ s.control.powered = true ∧ t = settle (f (s.advanceTo d))) ∨ t = s := by
  cases x with
  | none => cases h; exact .inr rfl
  | some d =>
    cases hp : s.control.powered
    · simp [expiry, hp] at h; exact .inr h.symm
    · rw [expiry_powered d f hp] at h; cases h; exact .inl ⟨d, rfl, rfl, rfl⟩

/-- An event of an attentive part leaves its own effect with the aftermath alone. -/
theorem event_left {s : State} (dt : Nat) (f : State → State) (h : s.attentive)
    (hf : (f (s.advance dt)).control.restart = none) :
    ∃ t, event dt f s = .next t ∧ Left (f (s.advance dt)) t :=
  ⟨_, event_powered dt f h.1, settle_left _ hf⟩

/-- An expiry of an attentive part leaves its own effect with the aftermath alone. -/
theorem expiry_left {s : State} (d : Nat) (f : State → State) (h : s.attentive)
    (hf : (f (s.advanceTo d)).control.restart = none) :
    ∃ t, expiry (some d) f s = .next t ∧ Left (f (s.advanceTo d)) t :=
  ⟨_, expiry_powered d f h.1, settle_left _ hf⟩

/-- What the event's own effect keeps of a state `u` is left of `u` after the event. -/
theorem Left.of_kept {u v t : State} (k : Kept u v) (h : Left v t) : Left u t := by
  unfold Left at h ⊢
  rw [k.free] at h
  exact (k.withFree _).trans h

end Sys2Proof.Machine
end

