-- ==== Sys2Proof/Laws/Journal.lean ====
section
/-! SUPPORT. What creating an entry does (R110 to R113, R116), and what the array port leaves of the staging
list. -/

namespace Sys2Proof.Machine

/-- Some slot of the journal table is free. -/
def Roomy (t : Vector (Option Entry) 256) : Prop := ∃ i : Fin 256, t[i] = none

theorem Roomy.set_none {t : Vector (Option Entry) 256} (i : Fin 256) : Roomy (t.set i none) :=
  ⟨i, by simp⟩

/-- With a free slot, an entry gets one (R116). -/
theorem chooseSlot_isSome (hire : HireControl) {t : Vector (Option Entry) 256} (e : Entry) (h : Roomy t) :
    ∃ i, chooseSlot hire t e = some i := by
  obtain ⟨i, hi⟩ := h
  have : (freeSlot t).isSome := by
    unfold freeSlot
    rw [List.find?_isSome]
    exact ⟨i, by simp, by simp [hi]⟩
  obtain ⟨j, hj⟩ := Option.isSome_iff_exists.mp this
  exact ⟨j, by unfold chooseSlot; rw [hj]⟩

/-- A busy port is not granted again (R126). -/
theorem grantPort_busy {s : State} (h : s.store.port ≠ .free) : grantPort s = s := by
  unfold grantPort grantLoop
  rw [if_neg h]

/-- What an operation leaves where a slot of the journal table is free: the staging list, and a free slot. -/
def StagingKept (s t : State) : Prop :=
  Roomy s.store.journal → Roomy t.store.journal ∧ t.journal = s.journal

theorem StagingKept.refl (s : State) : StagingKept s s := fun h => ⟨h, rfl⟩

theorem StagingKept.trans {s t u : State} (h : StagingKept s t) (k : StagingKept t u) : StagingKept s u :=
  fun r => ⟨(k (h r).1).1, (k (h r).1).2.trans (h r).2⟩

theorem StagingKept.after {s t u : State} (k : StagingKept t u) (h : StagingKept s t) : StagingKept s u :=
  h.trans k

/-- Operations that leave table and staging list alone. -/
theorem StagingKept.of_eq {s t : State} (h : t.store.journal = s.store.journal) (k : t.journal = s.journal) :
    StagingKept s t := fun r => ⟨by rw [h]; exact r, k⟩

theorem StagingKept.queueJournal (s : State) : StagingKept s (queueJournal s) := by
  unfold Machine.queueJournal
  split
  · exact .of_eq rfl rfl
  · exact .refl s

theorem StagingKept.continueJournal (j : JournalJob) (s : State) : StagingKept s (continueJournal j s) := by
  intro h
  unfold Machine.continueJournal
  split
  · exact StagingKept.queueJournal _ h
  · next e _ _ =>
    obtain ⟨i, hi⟩ := chooseSlot_isSome s.hire e h
    rw [hi]
    exact ⟨Roomy.set_none i, rfl⟩

theorem StagingKept.noFurtherItem (s : State) : StagingKept s (noFurtherItem s) := by
  unfold Machine.noFurtherItem
  split <;> exact .of_eq rfl rfl

theorem StagingKept.choosePort (s : State) : StagingKept s (choosePort s) := by
  unfold Machine.choosePort
  dsimp only
  split
  · split <;> exact .of_eq rfl rfl
  split
  · split
    · unfold grantJournalRead
      dsimp only
      split
      · exact .of_eq rfl rfl
      · split
        · exact (StagingKept.noFurtherItem _).after (.of_eq rfl rfl)
        · split
          · exact (StagingKept.noFurtherItem _).after (.of_eq rfl rfl)
          · exact .of_eq rfl rfl
    · exact .of_eq rfl rfl
    · exact .refl s
  split
  · unfold startHireRecord
    split
    · split <;> exact .of_eq rfl rfl
    · exact .of_eq rfl rfl
  split
  · split
    · exact .continueJournal _ _
    · exact .refl s
  split
  · exact (StagingKept.continueJournal _ _).after (.of_eq rfl rfl)
  split
  · split <;> exact .of_eq rfl rfl
  · exact .refl s

/-- The array port leaves the staging list as it is where a slot is free. -/
theorem StagingKept.grantPort (s : State) : StagingKept s (grantPort s) := by
  have loop : ∀ (n : Nat) (s : State), StagingKept s (grantLoop n s) := by
    intro n
    induction n with
    | zero => exact .refl
    | succ n ih =>
      intro s; unfold grantLoop; split
      · exact (StagingKept.choosePort s).trans (ih _)
      · exact .refl s
  exact loop 64 s

/-- Creating an entry with a sequence number to take and a staging place: the entry is staged where a slot of
the table is free (R110, R111). -/
theorem createEntry_staged (k : EntryKind) (m : Option Nat) (a b : Nat) (s : State)
    (h : s.journal.nextSeq < ceiling) (p : s.journal.staging.length < 8) (r : Roomy s.store.journal) :
    (createEntry k m a b s).journal =
      { staging := s.journal.staging ++ [s.makeEntry k m a b], nextSeq := s.journal.nextSeq + 1 } := by
  unfold createEntry stageEntry
  rw [if_neg (Nat.not_le.mpr h), if_pos (by exact p)]
  exact ((StagingKept.queueJournal (s.setJournal
    { staging := s.journal.staging ++ [s.makeEntry k m a b]
      nextSeq := s.journal.nextSeq + 1 })).trans (.grantPort _) r).2

/-- Every created entry takes the next sequence number (R110). -/
theorem createEntry_nextSeq (k : EntryKind) (m : Option Nat) (a b : Nat) (s : State)
    (h : s.journal.nextSeq < ceiling) :
    (createEntry k m a b s).journal.nextSeq = s.journal.nextSeq + 1 := by
  have e := (Kept.createEntry k m a b s).nextSeq
  unfold createdJournal at e
  rw [if_neg (Nat.not_le.mpr h)] at e
  rw [e]
  split <;> rfl

/-- With the sequence numbers used up no entry is created (R110). -/
theorem createEntry_exhausted (k : EntryKind) (m : Option Nat) (a b : Nat) (s : State)
    (h : ceiling ≤ s.journal.nextSeq) : createEntry k m a b s = grantPort s.countDrop := by
  unfold createEntry stageEntry; rw [if_pos h]

end Sys2Proof.Machine
end

