-- ==== Sys2Proof/Laws/Table.lean ====
section
/-! SUPPORT. What the increments of the counter table do (R82 to R84, R56), and that none of them lowers a
count. -/

namespace Sys2Proof.Machine

theorem capAdd_ge (cap a n : Nat) : a ≤ capAdd cap a n := Nat.le_max_left _ _

/-- Below the ceiling the sum stops at the ceiling. -/
theorem capAdd_of_le {cap a : Nat} (h : a ≤ cap) (n : Nat) : capAdd cap a n = min cap (a + n) := by
  unfold capAdd; omega

theorem capAdd_le {cap a : Nat} (h : a ≤ cap) (n : Nat) : capAdd cap a n ≤ cap := by
  unfold capAdd; omega

theorem capAdd_zero (cap a : Nat) : capAdd cap a 0 = a := by unfold capAdd; omega

/-- The lifetime counter that an increment reaches. -/
theorem tableAdd_life (o : Bool) (n : Fin 47) (a : Nat) (t : Table) :
    (tableAdd o n a t).life[n] = capAdd ceiling t.life[n] a := by simp [tableAdd]

/-- The hire-scope counter that an increment reaches: with no hire open it is as it was. -/
theorem tableAdd_hire (o : Bool) (n : Fin 47) (a : Nat) (t : Table) :
    (tableAdd o n a t).hire[n] =
      if o then max t.hire[n] (min (capAdd ceiling t.hire[n] a) (capAdd ceiling t.life[n] a))
      else t.hire[n] := by
  cases o <;> simp [tableAdd]

/-- No increment lowers a lifetime counter (R85). -/
theorem tableAdd_life_ge (o : Bool) (n m : Fin 47) (a : Nat) (t : Table) :
    t.life[m] ≤ (tableAdd o n a t).life[m] := by
  by_cases h : m = n
  · subst h; rw [tableAdd_life]; exact capAdd_ge _ _ _
  · rw [(tableAdd_other o n m a t h).1]

@[simp] theorem State.raise_life_same (s : State) (c : Counter) (a : Nat) :
    (s.raise c a).table.life[c.number] = capAdd ceiling s.table.life[c.number] a :=
  tableAdd_life _ _ _ _

theorem State.raise_life_other (s : State) (c : Counter) (a : Nat) (n : Fin 47) (h : n ≠ c.number) :
    (s.raise c a).table.life[n] = s.table.life[n] := (tableAdd_other _ _ n a _ h).1

theorem State.raise_hire_other (s : State) (c : Counter) (a : Nat) (n : Fin 47) (h : n ≠ c.number) :
    (s.raise c a).table.hire[n] = s.table.hire[n] := (tableAdd_other _ _ n a _ h).2

@[simp] theorem State.raise_clock (s : State) (c : Counter) (a : Nat) : (s.raise c a).clock = s.clock := rfl
@[simp] theorem State.raise_control (s : State) (c : Counter) (a : Nat) :
    (s.raise c a).control = s.control := rfl
@[simp] theorem State.raise_profile (s : State) (c : Counter) (a : Nat) :
    (s.raise c a).profile = s.profile := rfl
@[simp] theorem State.raise_board (s : State) (c : Counter) (a : Nat) : (s.raise c a).board = s.board := rfl
@[simp] theorem State.raise_inputs (s : State) (c : Counter) (a : Nat) : (s.raise c a).inputs = s.inputs := rfl
@[simp] theorem State.raise_arbiter (s : State) (c : Counter) (a : Nat) :
    (s.raise c a).arbiter = s.arbiter := rfl
@[simp] theorem State.raise_start (s : State) (c : Counter) (a : Nat) : (s.raise c a).start = s.start := rfl
@[simp] theorem State.raise_trackers (s : State) (c : Counter) (a : Nat) :
    (s.raise c a).trackers = s.trackers := rfl
@[simp] theorem State.raise_remainders (s : State) (c : Counter) (a : Nat) :
    (s.raise c a).remainders = s.remainders := rfl
@[simp] theorem State.raise_hire (s : State) (c : Counter) (a : Nat) : (s.raise c a).hire = s.hire := rfl
@[simp] theorem State.raise_journal (s : State) (c : Counter) (a : Nat) :
    (s.raise c a).journal = s.journal := rfl
@[simp] theorem State.raise_store (s : State) (c : Counter) (a : Nat) : (s.raise c a).store = s.store := rfl
@[simp] theorem State.raise_notices (s : State) (c : Counter) (a : Nat) :
    (s.raise c a).notices = s.notices := rfl
@[simp] theorem State.raise_link (s : State) (c : Counter) (a : Nat) : (s.raise c a).link = s.link := rfl
@[simp] theorem State.raise_marks (s : State) (c : Counter) (a : Nat) :
    (s.raise c a).table.marks = s.table.marks := rfl

/-! ## Increments in both scopes (R82 to R84) -/

theorem Rose.refl (n : Fin 47) (s : State) : Rose n 0 s s := by
  unfold Rose; simp only [capAdd_zero, true_and]
  split <;> omega

/-- An increment step reaches both scopes as R82 to R84 say. -/
theorem State.raise_rose (s : State) (c : Counter) (a : Nat) : Rose c.number a s (s.raise c a) := by
  refine ⟨s.raise_life_same c a, ?_⟩
  rw [s.raise_life_same]
  simpa [State.raise, State.setTable, State.hireOpen] using tableAdd_hire s.hireOpen c.number a s.table

/-- An increment step leaves every other counter in both scopes. -/
theorem State.raise_rose_other (s : State) (c : Counter) (a : Nat) (n : Fin 47) (h : n ≠ c.number) :
    Rose n 0 s (s.raise c a) := by
  obtain ⟨hl, hh⟩ := Rose.refl n s
  exact ⟨(s.raise_life_other c a n h).trans hl,
    (s.raise_hire_other c a n h).trans (by rwa [s.raise_life_other c a n h])⟩

/-- Two increments of one counter in one step add up, in both scopes. -/
theorem Rose.trans {n : Fin 47} {a b : Nat} {s t u : State} (h : Rose n a s t) (k : Rose n b t u)
    (e : t.hire.state = s.hire.state) : Rose n (a + b) s u := by
  obtain ⟨hl, hh⟩ := h
  obtain ⟨kl, kh⟩ := k
  unfold Rose
  rw [e] at kh
  refine ⟨by rw [kl, hl]; unfold capAdd; omega, ?_⟩
  split at hh
  · simp_all; unfold capAdd; omega
  · simp_all

/-- A closing raises one outcome and START ATTEMPTS together, in the lifetime scope, up to the ceiling of
the latter (R56). -/
theorem tableClose_life (o : Bool) (k : Fin 47) (cold : Bool) (t : Table) (h : ¬ t.life[0] < ceiling) :
    (tableClose o k cold t).life = t.life := by
  unfold tableClose; dsimp only; rw [if_neg h]

theorem raiseGroup_ge (k : Fin 47) (cold : Bool) (v : Vector Nat 47) (m : Fin 47) :
    v[m] ≤ (raiseGroup k cold v)[m] := by
  have step : ∀ (w : Vector Nat 47) (i m : Fin 47), w[m] ≤ (w.set i (capAdd ceiling w[i] 1))[m] := by
    intro w i m
    by_cases h : i = m
    · subst h; simpa using capAdd_ge _ _ _
    · have : i.val ≠ m.val := fun e => h (Fin.ext e)
      simp [this]
  unfold raiseGroup
  dsimp only
  have h1 := step v 0 m
  have h2 := step (v.set (0 : Fin 47) (capAdd ceiling v[(0 : Fin 47)] 1)) k m
  split
  · exact (h1.trans h2).trans (step _ 4 m)
  · exact h1.trans h2

/-- No closing of an attempt lowers a lifetime counter (R85). -/
theorem tableClose_life_ge (o : Bool) (k : Fin 47) (cold : Bool) (t : Table) (m : Fin 47) :
    t.life[m] ≤ (tableClose o k cold t).life[m] := by
  unfold tableClose
  dsimp only
  split
  · exact raiseGroup_ge k cold t.life m
  · exact Nat.le_refl _

end Sys2Proof.Machine
end

