-- ==== Sys2Proof/Laws/Tally.lean ====
section
/-! SUPPORT. What the tally engine leaves alone: the events of its event side and the twelve stages of a
pass. -/

namespace Sys2Proof.Machine

/-- What no event of the tally engine and no stage of a pass touches. -/
structure TallyKept (s t : State) : Prop where
  clock      : t.clock = s.clock
  profile    : t.profile = s.profile
  board      : t.board = s.board
  intake     : t.intake = s.intake
  inputs     : t.inputs = s.inputs
  arbiter    : t.arbiter = s.arbiter
  free       : t.free = s.free
  pending    : t.pending = s.pending
  control    : t.control.withoutPark = s.control.withoutPark
  marks      : t.table.marks = s.table.marks
  hire       : t.hire.withoutHeader = s.hire.withoutHeader
  header     : headerKept s.hire.header t.hire.header
  storeState : t.store.state = s.store.state
  ring       : t.store.ring = s.store.ring
  account    : t.link.account = s.link.account
  server     : t.server.withoutHeld = s.server.withoutHeld
  lost       : t.stream.lost = s.stream.lost

theorem TallyKept.of_kept {s t : State} (h : Kept s t) : TallyKept s t := { h with }

theorem TallyKept.refl (s : State) : TallyKept s s := .of_kept (.refl s)

theorem TallyKept.trans {s t u : State} (h : TallyKept s t) (k : TallyKept t u) : TallyKept s u :=
  { clock := k.clock.trans h.clock, profile := k.profile.trans h.profile, board := k.board.trans h.board
    intake := k.intake.trans h.intake, inputs := k.inputs.trans h.inputs
    arbiter := k.arbiter.trans h.arbiter, free := k.free.trans h.free
    pending := k.pending.trans h.pending, control := k.control.trans h.control
    marks := k.marks.trans h.marks, hire := k.hire.trans h.hire
    header := headerKept_trans h.header k.header, storeState := k.storeState.trans h.storeState
    ring := k.ring.trans h.ring, account := k.account.trans h.account, server := k.server.trans h.server
    lost := k.lost.trans h.lost }

theorem TallyKept.after {s t u : State} (k : TallyKept t u) (h : TallyKept s t) : TallyKept s u := h.trans k

theorem TallyKept.of_notices {s t : State} (h : NoticesOnly s t) : TallyKept s t := { h with }

theorem TallyKept.raise (c : Counter) (n : Nat) (s : State) : TallyKept s (s.raise c n) :=
  { TallyKept.refl s with }

theorem TallyKept.setStart (x : StartMachine) (s : State) : TallyKept s (s.setStart x) :=
  { TallyKept.refl s with }

theorem TallyKept.setTrackers (x : Trackers) (s : State) : TallyKept s (s.setTrackers x) :=
  { TallyKept.refl s with }

theorem TallyKept.setRemainders (x : Remainders) (s : State) : TallyKept s (s.setRemainders x) :=
  { TallyKept.refl s with }

theorem TallyKept.createEntry (k : EntryKind) (m : Option Nat) (a b : Nat) (s : State) :
    TallyKept s (createEntry k m a b s) :=
  TallyKept.trans (t := s.setJournal (createdJournal s.journal (s.makeEntry k m a b)))
    { TallyKept.refl s with } (.of_kept (Kept.createEntry k m a b s))

theorem TallyKept.setCondition (n : Fin 14) (s : State) : TallyKept s (setCondition n s) :=
  .of_notices (.setCondition n s)

theorem TallyKept.clearCondition (n : Fin 14) (s : State) : TallyKept s (clearCondition n s) :=
  .of_notices (.clearCondition n s)

theorem TallyKept.setPulse (p : PulseSource) (s : State) : TallyKept s (setPulse p s) :=
  .of_notices (.setPulse p s)

/-! ## The event side -/

theorem TallyKept.closeAttempt (o : Outcome) (s : State) : TallyKept s (closeAttempt o s) := by
  have h : TallyKept s (s.setTable (tableClose s.hireOpen o.counter.number s.start.cold s.table)) :=
    { TallyKept.refl s with }
  unfold Machine.closeAttempt
  dsimp only
  split
  · split
    · exact (h.trans (.raise _ _ _)).trans (.raise _ _ _)
    · exact h.trans (.raise _ _ _)
  · exact h

theorem TallyKept.beginAttempt (t : Nat) (s : State) : TallyKept s (beginAttempt t s) := .setStart _ s

theorem TallyKept.crankBegin (t : Nat) (s : State) : TallyKept s (crankBegin t s) := by
  unfold Machine.crankBegin
  split
  · exact .beginAttempt t s
  · exact (TallyKept.closeAttempt _ s).trans (.beginAttempt _ _)
  · exact ((TallyKept.raise _ _ s).trans (.createEntry _ _ _ _ _)).trans (.setStart _ _)
  · exact .refl s

theorem TallyKept.creditCrank (t : Nat) (s : State) : TallyKept s (creditCrank t s) :=
  ((TallyKept.setStart _ s).trans (.raise _ _ _)).trans (.raise _ _ _)

theorem TallyKept.crankEnd (t : Nat) (s : State) : TallyKept s (crankEnd t s) := by
  unfold Machine.crankEnd
  split
  · exact ((TallyKept.creditCrank t s).trans (.setStart _ _)).trans (.clearCondition _ _)
  · split
    · exact (TallyKept.creditCrank t s).trans (.setStart _ _)
    · exact .refl s
  · exact .refl s
  · exact .refl s

theorem TallyKept.longCrank (t : Nat) (s : State) : TallyKept s (longCrank t s) := by
  unfold Machine.longCrank
  split
  · exact ((TallyKept.raise _ _ s).trans (.createEntry _ _ _ _ _)).trans (.setCondition _ _)
  · exact .refl s

theorem TallyKept.clutchChange (v : Option Int) (s : State) : TallyKept s (clutchChange v s) := by
  unfold Machine.clutchChange
  split
  · exact .refl s
  · split
    · exact .setTrackers _ s
    · split
      · refine TallyKept.trans ?_ (.setTrackers _ _)
        refine TallyKept.trans (.raise .engagements 1 s) ?_
        split
        · split
          · exact .raise _ _ _
          · exact .refl _
        · split
          · exact .raise _ _ _
          · exact .refl _
      · exact .refl s

theorem TallyKept.gearChange (p g : Option Int) (s : State) : TallyKept s (gearChange p g s) := by
  unfold Machine.gearChange
  split
  · dsimp only
    split
    · exact (((TallyKept.raise _ _ s).trans (.raise _ _ _)).trans (.createEntry _ _ _ _ _)).trans
        (.setPulse _ _)
    · exact .raise _ _ s
  · exact .refl s

/-- What an event of the event side leaves alone. -/
theorem TallyKept.takeEvent (e : TallyEvent) (s : State) : TallyKept s (takeEvent e s) := by
  cases e with
  | crankBegin t => exact .crankBegin t s
  | crankEnd t => exact .crankEnd t s
  | gear _ p g => exact .gearChange p g s
  | clutch _ v => exact .clutchChange v s
  | longCrank t => exact .longCrank t s
  | shaftReversal r =>
    exact ((TallyKept.raise _ _ s).trans (.createEntry _ _ _ _ _)).trans (.setPulse _ _)
  | shock p q => exact ((TallyKept.raise _ _ s).trans (.createEntry _ _ _ _ _)).trans (.setPulse _ _)

/-- The one inversion lemma of an event's delivery (R45). -/
theorem deliver_cases (e : TallyEvent) (s : State) :
    (s.arbiter.unit = .pass ∧ deliver e s =
        s.setArbiter { s.arbiter with held := s.arbiter.held ++ [{ arrivedMs := s.nowMs, event := e }] })
      ∨ (s.arbiter.unit ≠ .pass ∧ deliver e s = takeEvent e s) := by
  unfold deliver
  by_cases h : s.arbiter.unit = .pass
  · rw [if_pos h]; exact .inl ⟨h, rfl⟩
  · rw [if_neg h]; exact .inr ⟨h, rfl⟩

/-! ## The stages of a pass -/

theorem TallyKept.stageStart (x : Sample) (s : State) : TallyKept s (stageStart x s) := by
  have window : TallyKept s (windowPass x s) := by
    unfold windowPass
    dsimp only
    generalize hu : s.setStart _ = u
    have h : TallyKept s u := hu ▸ .setStart _ s
    split
    · exact (h.trans (.closeAttempt _ _)).trans (.setStart _ _)
    · split
      · split
        · exact (h.trans (.closeAttempt _ _)).trans (.setStart _ _)
        · exact (h.trans (.closeAttempt _ _)).trans (.setStart _ _)
      · exact h
  have stopped : ∀ u : State, TallyKept u (engineStopped u) := fun u => by
    unfold engineStopped
    dsimp only
    generalize hw : (u.raise .engineStops 1).setStart _ = w
    have h : TallyKept u w := hw ▸ (TallyKept.raise .engineStops 1 u).trans (.setStart _ _)
    split
    · exact (h.trans (.crankEnd _ _)).trans (.beginAttempt _ _)
    · exact h.trans (.setStart _ _)
  have running : TallyKept s (runningPass x s) := by
    unfold runningPass
    dsimp only
    generalize hu : s.setStart _ = u
    have h : TallyKept s u := hu ▸ .setStart _ s
    split
    · generalize hv : u.setStart _ = v
      have k : TallyKept s v := hv ▸ h.trans (.setStart _ _)
      split
      · exact k.trans (stopped _)
      · exact k
    · exact h.trans (.setStart _ _)
  unfold Machine.stageStart
  split
  · exact window
  · exact running
  · split
    · exact (TallyKept.raise _ _ s).trans (.setStart _ _)
    · exact .refl s
  · exact .refl s

theorem TallyKept.stageRunTime (x : Sample) (s : State) : TallyKept s (stageRunTime x s) := by
  unfold Machine.stageRunTime
  dsimp only
  split
  · have h := (TallyKept.raise .runTime 1 s).trans (.raise (.gearTime (gearIndex (x.g.bind Value.num?))) 1 _)
    split
    · exact h
    · exact h.trans (.raise _ _ _)
  · exact .refl s

theorem TallyKept.stageIdle (x : Sample) (s : State) : TallyKept s (stageIdle x s) := by
  unfold Machine.stageIdle
  split
  · exact .raise _ _ s
  · exact .refl s

theorem TallyKept.stageEquivalent (x : Sample) (s : State) : TallyKept s (stageEquivalent x s) := by
  unfold Machine.stageEquivalent
  dsimp only
  split
  · refine TallyKept.trans ?_ (.raise _ _ _)
    refine TallyKept.trans ?_ (.setRemainders _ _)
    split
    · exact .raise _ _ s
    · exact .refl s
  · exact .refl s

theorem TallyKept.stageOverspeed (x : Sample) (s : State) : TallyKept s (stageOverspeed x s) := by
  unfold Machine.stageOverspeed
  dsimp only
  split
  · split
    · exact ((TallyKept.createEntry _ _ _ _ s).trans (.clearCondition _ _)).trans (.setTrackers _ _)
    · exact (TallyKept.raise _ _ s).trans (.setTrackers _ _)
  · split
    · exact (((TallyKept.raise _ _ s).trans (.raise _ _ _)).trans (.setTrackers _ _)).trans
        (.setCondition _ _)
    · exact .refl s

theorem TallyKept.stageClutchWork (x : Sample) (s : State) : TallyKept s (stageClutchWork x s) := by
  unfold Machine.stageClutchWork
  split
  · exact (TallyKept.setRemainders _ s).trans (.raise _ _ _)
  · exact .refl s

theorem TallyKept.stageClutchHot (x : Sample) (s : State) : TallyKept s (stageClutchHot x s) := by
  have ended : TallyKept s (endHot s) :=
    ((TallyKept.createEntry _ _ _ _ s).trans (.clearCondition _ _)).trans (.setTrackers _ _)
  unfold Machine.stageClutchHot
  dsimp only
  split
  · unfold hotActive
    dsimp only
    split
    · exact ended
    · split
      · exact (TallyKept.raise _ _ s).trans (.setTrackers _ _)
      · split
        · exact ended
        · exact (TallyKept.raise _ _ s).trans (.setTrackers _ _)
  · unfold hotNone
    dsimp only
    split
    · split
      · exact (((TallyKept.raise _ _ s).trans (.raise _ _ _)).trans (.setTrackers _ _)).trans
          (.setCondition _ _)
      · exact .setTrackers _ s
    · exact .setTrackers _ s

theorem TallyKept.stageDistance (x : Sample) (s : State) : TallyKept s (stageDistance x s) := by
  unfold Machine.stageDistance
  split
  · exact (TallyKept.setRemainders _ s).trans (.raise _ _ _)
  · exact .refl s

theorem TallyKept.stageMoving (x : Sample) (s : State) : TallyKept s (stageMoving x s) := by
  unfold Machine.stageMoving
  split
  · exact .raise _ _ s
  · exact .refl s

theorem TallyKept.stageUnhiredMove (x : Sample) (s : State) : TallyKept s (stageUnhiredMove x s) := by
  unfold Machine.stageUnhiredMove
  extract_lets u quiet armed move
  split
  · exact (TallyKept.createEntry _ _ _ _ s).trans (.setTrackers _ _)
  · exact .setTrackers _ s

theorem TallyKept.stageRevolutions (x : Sample) (s : State) : TallyKept s (stageRevolutions x s) := by
  unfold Machine.stageRevolutions
  split
  · exact .refl s
  · exact ((TallyKept.setRemainders _ s).trans (.raise _ _ _)).trans (.raise _ _ _)

theorem TallyKept.stageDisagreement (x : Sample) (s : State) : TallyKept s (stageDisagreement x s) := by
  unfold Machine.stageDisagreement
  dsimp only
  split
  · split
    · exact (TallyKept.createEntry _ _ _ _ s).trans (.setTrackers _ _)
    · exact .setTrackers _ s
  · exact .setTrackers _ s

theorem TallyKept.setDue (m : Fin 5) (b : Bool) (s : State) : TallyKept s (setDue m b s) :=
  { TallyKept.refl s with }

theorem TallyKept.checkMember (m : Fin 5) (s : State) : TallyKept s (checkMember m s) := by
  unfold Machine.checkMember
  dsimp only
  split
  · exact ((TallyKept.setDue _ _ s).trans (.createEntry _ _ _ _ _)).trans (.setCondition _ _)
  · exact (TallyKept.setDue _ _ s).trans (.clearCondition _ _)
  · exact .refl s

theorem TallyKept.stageWear (s : State) : TallyKept s (stageWear s) := by
  have fold : ∀ (l : List (Fin 5)) (u : State), TallyKept u (l.foldl (fun s m => Machine.checkMember m s) u) := by
    intro l
    induction l with
    | nil => exact .refl
    | cons m l ih => intro u; exact (TallyKept.checkMember m u).trans (ih _)
  exact fold _ s

theorem TallyKept.stagePeriodic (x : Sample) (s : State) : TallyKept s (stagePeriodic x s) := by
  unfold Machine.stagePeriodic
  split
  · split
    · exact (TallyKept.setTrackers _ s).trans (.of_kept (.checkpointTrigger _ _))
    · exact .setTrackers _ s
  · exact .refl s

/-- What the twelve stages of a pass leave alone (R47). -/
theorem TallyKept.passStages (x : Sample) (s : State) : TallyKept s (passStages x s) :=
  ((((((((((((TallyKept.stageStart x s).trans (.stageRunTime x _)).trans (.stageIdle x _)).trans
    (.stageEquivalent x _)).trans (.stageOverspeed x _)).trans (.stageClutchWork x _)).trans
    (.stageClutchHot x _)).trans (.stageDistance x _)).trans (.stageMoving x _)).trans
    (.stageUnhiredMove x _)).trans (.stageRevolutions x _)).trans (.stageDisagreement x _)).trans
    ((TallyKept.stageWear _).trans (.stagePeriodic x _))

end Sys2Proof.Machine
end

