-- ==== Sys2Proof/WellFormed.lean ====
section
/-! DEFINITION. Which commands are well formed: what a CAN frame can carry, and the longest times the
manual gives an event to take. -/

namespace Sys2Proof

/-- A classic CAN frame: 0 to 8 data bytes, none in a remote frame, an 11-bit identifier in the low
eleven positions. -/
def Frame.wellFormed (f : Frame) : Bool :=
  decide (f.length ≤ 8)
    && (if f.remote then f.data.isEmpty else f.data.length == f.length)
    && (f.extended || decide (f.ident.toNat < 2048))

/-- The memory answers with at most the bytes that a 16-bit word address reaches (R184). -/
def MemoryAnswer.wellFormed (m : MemoryAnswer) : Bool := decide (m.image.length ≤ 65536)

/-- The bounds the manual sets on the time an event takes after what it ends: STARTING 250 ms (R183),
a decode 250 µs (R9), a pass 2 ms (R43), and the units of work of R126. -/
def Instr.wellFormed : Instr → Bool
  | .startingEnd dt mem => decide (dt ≤ 250000) && mem.wellFormed
  | .frameReceived _ f => f.wellFormed
  | .decodeComplete dt => decide (dt ≤ 250)
  | .passComplete dt => decide (dt ≤ 2000)
  | .checkpointWriteDone dt _ => decide (dt ≤ 20000)
  | .hireRecordWriteDone dt _ => decide (dt ≤ 10000)
  | .journalEntryWriteDone dt _ => decide (dt ≤ 2000)
  | .streamItemRead dt _ => decide (dt ≤ 1000)
  | .startUp _ | .busJoin _ | .receiveError _ _ | .freshnessExpiry _ _ | .slotHoldExpiry _
  | .lineChange _ _ _ | .lineQualified _ | .shaftEdgeCandidate _ _ _ | .shaftEdgeAccepted _
  | .speedTimeout | .shockHoldoffExpiry | .tallyTick | .stepComplete _ | .longCrankExpiry
  | .wakeByBus _ | .parkTimerExpiry | .partSecondsTick | .checkpointSnapshot _ | .status _
  | .readCounter _ | .readSource _ | .readJournal _ | .readHire _ | .serviceDone _
  | .abortStream _ | .restart _ | .unknownRequest _ | .checkOut _ | .checkIn _
  | .hireControlUnknown _ | .hold _ | .holdExpiry | .summaryPageRequest _ | .pageTimerExpiry
  | .streamGapExpiry | .transmitSuccess _ | .lostArbitration _ | .transmitError _ _
  | .busOffRecovery _ | .pulseTimerExpiry _ | .dwellExpiry | .noticeRepeatExpiry
  | .restartWaitTimeout | .supplyLoss _ | .recoveryCountRun _ | .shortFrameDiscard _ => true

end Sys2Proof
end

