-- ==== Sys2Proof/Tests/Slice0.lean ====
section
/-! SUPPORT. Tests: the checks of WellFormed, worked examples of the manual, and for every statement with
hypotheses states and operands that meet them. -/

namespace Sys2Proof.Tests

open Sys2Proof.Machine

/-! ## WellFormed refuses -/

theorem test_wellFormed_takes_a_plain_frame :
    (Instr.frameReceived 0 ⟨false, false, 0x123#29, 2, [1, 2]⟩).wellFormed = true := by decide

theorem test_wellFormed_refuses_long_frame :
    (Instr.frameReceived 0 ⟨true, false, 0, 9, List.replicate 9 0⟩).wellFormed = false := by decide

theorem test_wellFormed_refuses_wrong_data_count :
    (Instr.frameReceived 0 ⟨true, false, 0, 3, [1, 2]⟩).wellFormed = false := by decide

theorem test_wellFormed_refuses_data_in_remote_frame :
    (Instr.frameReceived 0 ⟨true, true, 0, 1, [1]⟩).wellFormed = false := by decide

theorem test_wellFormed_refuses_wide_base_identifier :
    (Instr.frameReceived 0 ⟨false, false, 0x800#29, 0, []⟩).wellFormed = false := by decide

theorem test_wellFormed_refuses_oversized_image (l : List Byte) (h : l.length = 65537) :
    (Instr.startingEnd 0 ⟨[], 5, 0, l⟩).wellFormed = false := by
  simp [Instr.wellFormed, MemoryAnswer.wellFormed, h]

theorem test_wellFormed_refuses_long_starting :
    (Instr.startingEnd 250001 ⟨[], 5, 0, []⟩).wellFormed = false := by decide

theorem test_wellFormed_refuses_long_decode : (Instr.decodeComplete 251).wellFormed = false := by decide

theorem test_wellFormed_refuses_long_pass : (Instr.passComplete 2001).wellFormed = false := by decide

theorem test_wellFormed_refuses_long_checkpoint :
    (Instr.checkpointWriteDone 20001 true).wellFormed = false := by decide

theorem test_wellFormed_refuses_long_record :
    (Instr.hireRecordWriteDone 10001 true).wellFormed = false := by decide

theorem test_wellFormed_refuses_long_entry :
    (Instr.journalEntryWriteDone 2001 true).wellFormed = false := by decide

theorem test_wellFormed_refuses_long_read : (Instr.streamItemRead 1001 true).wellFormed = false := by decide

/-! ## Small states -/

/-- A part in RUN on the bus, its store NORMAL, with the FALLBACK profile. -/
def base : State :=
  { State.reset with
    control := { Control.reset .power with mode := .run }
    store := { Store.blank with state := .normal }
    link := { Link.reset with participation := .joined } }

/-- `base` with a request list of one request. -/
def asking (r : Request) : State := base.setServer { Server.reset with requests := [r] }

/-- A REQUEST frame of some bytes. -/
def request (l : List Byte) : Request := ⟨.request, l.length, l⟩

/-- A HIRE CONTROL frame of some bytes. -/
def control (l : List Byte) : Request := ⟨.hireControl, l.length, l⟩

/-- The open hire of a number. -/
def header (number : Nat) : HireHeader := ⟨number, 5, 10, none, false, false⟩

/-- A state with the hire of a number open. -/
def hired (s : State) (number : Nat) : State :=
  s.setHire { HireControl.reset with state := .opened, serial := 5, header := some (header number) }

/-- A closed record with nothing counted. -/
def record (number serial : Nat) : HireRecord :=
  ⟨number, serial, 10, none, 20, none, Vector.replicate 47 0, false, false⟩

/-- A checkpoint of `base` with a sequence number. -/
def checkpoint (seq : Nat) : Checkpoint := { base.checkpointNow .event with seq := seq }

/-- A STARTUP entry with a sequence number. -/
def entry (seq : Nat) : Entry := ⟨seq, .startup, 0, none, none, none, 0, 2⟩

/-- A state with the port taken. -/
def porting (p : Port) : State := base.setStore { base.store with port := p }

/-- A journal stream right after its start. -/
def streaming : RunningStream :=
  ⟨.journal 0 2, 9, 0, 0, 0, none, none, [], false⟩

/-- A NOTICE frame in the transmitter. -/
def sending : State :=
  base.setLink { base.link with transmitter := some ⟨⟨0x20, [], .notice⟩, 0⟩ }

/-- A line measured from inactive to active. -/
def measured (q : Bool) : LineState := ⟨true, some q, some ⟨100, 110000⟩⟩

/-! ## Worked examples -/

/-- The 16-bit code of section 5.6 over the digits 1 to 9; 0x29B1 is the published check value of this
generator and starting value. -/
theorem test_checkCode16_of_digits :
    checkCode16 [0x31, 0x32, 0x33, 0x34, 0x35, 0x36, 0x37, 0x38, 0x39] = 0x29B1#16 := by decide +kernel

/-- The 32-bit code of section 5.6 over the digits 1 to 9; 0xCBF43926 is its published check value. -/
theorem test_checkCode32_of_digits :
    checkCode32 [0x31, 0x32, 0x33, 0x34, 0x35, 0x36, 0x37, 0x38, 0x39] = 0xCBF43926#32 := by decide +kernel

/-- An entry of the example of matching order (section 1.2). -/
def matcher (reject : Bool) (ident mask : BitVec 32) : SourceEntry :=
  { emptyEntry with valid := true, extended := true, reject := reject, ident := ident, mask := mask }

/-- The source table of that example. -/
def matchers : Vector SourceEntry 16 :=
  ((((Vector.replicate 16 emptyEntry).set 2 (matcher false 0x0CF00400#32 0xFFFFFF00#32)).set 5
    (matcher true 0x0CF00417#32 0xFFFFFFFF#32)).set 7 (matcher false 0x0CF00417#32 0xFFFFFFFF#32))

/-- Example of matching order (section 1.2): entry 5 rejects, so entry 7 is not considered. -/
theorem test_matching_order :
    matchedSet matchers ⟨true, false, 0x0CF00417#29, 0, []⟩ = [2]
      ∧ matchedSet matchers ⟨true, false, 0x0CF00400#29, 0, []⟩ = [2]
      ∧ matchedSet (matchers.set 1 (matcher true 0x0CF00417#32 0xFFFFFFFF#32))
          ⟨true, false, 0x0CF00417#29, 0, []⟩ = [] := by decide +kernel

/-- Worked cases of scaling (section 1.4): ENGINE TORQUE as U8 percent of 2000 Nm with offset 125. -/
theorem test_scaling_of_torque :
    extract { emptyEntry with multiplier := 20, offset := -2500 } .engineTorque 8 [166] = .value (.num 820) false
      ∧ extract { emptyEntry with multiplier := 20, offset := -2500 } .engineTorque 8 [0]
          = .value (.num (-2000)) true := by decide +kernel

/-- The sample of the largest clutch work in one pass (section 4.10). -/
def slipping (c : Int) : Sample :=
  { base.sample with
    n := some 16383, t := some 6000, ni := some 0, g := none, v := none, c := some c, ignition := true
    hireOpen := false }

/-- Largest clutch work in one pass (section 4.10): CLUTCH WORK +978, remainder 86,438; none at C = 96. -/
theorem test_largest_clutch_work :
    let s := { base with
      start := { StartMachine.reset with state := .running }
      remainders := { Remainders.reset with clutch := 95492 } }
    (stageClutchWork (slipping 95) s).table.life[17] = 978
      ∧ (stageClutchWork (slipping 95) s).remainders.clutch = 86438
      ∧ (stageClutchWork (slipping 96) s).table.life[17] = 0 := by decide +kernel

/-- Largest distance in one pass (section 4.10): DISTANCE +7, remainder 339. -/
theorem test_largest_distance :
    let s := { base with remainders := { Remainders.reset with distance := 359 } }
    let x : Sample := { base.sample with v := some 2500 }
    (stageDistance x s).table.life[43] = 7 ∧ (stageDistance x s).remainders.distance = 339 := by
  decide +kernel

/-- Worked shaft sequence (section 2.4): a period of 2000 µs with 60 teeth is 500 rpm, and 22.5 km/h at the
speed factor 450. -/
theorem test_shaft_speed_of_period :
    speedOfPeriod 60 2000 = 500 ∧ vehicleSpeedOf { fallbackProfile with speedFactor := 450 } 500 = 225 := by
  decide +kernel

/-- Worked shock case (section 2.4): 4000 µs then 2600 µs is a shock at ratio 1/4 and none at 1/2. -/
theorem test_shock_ratio : periodsShock 1 4000 2600 = true ∧ periodsShock 2 4000 2600 = false := by decide

/-- R155: the link states at TEC 127 and 128, WARNING at 95 and 96. -/
theorem test_link_state_limits :
    (confine { Link.reset with tec := some 127 }).state = .errorActive
      ∧ (confine { Link.reset with tec := some 128 }).state = .errorPassive
      ∧ (confine { Link.reset with tec := some 95 }).warning = false
      ∧ (confine { Link.reset with recCount := 96 }).warning = true := by decide +kernel

/-- R83: a counter one below the ceiling takes 1 of an increment of 5. -/
theorem test_increment_stops_at_ceiling : capAdd ceiling 4294967294 5 = 4294967295 := by decide

/-- R97: the first CHECK OUT of a blank part opens the hire with serial 1. -/
theorem test_check_out_opens :
    (doCheckOut (control [1, 7, 100, 0, 0, 0]) (asking (control [1, 7, 100, 0, 0, 0]))).hire.header.map
        (fun h => (h.number, h.serial)) = some (100, 1) := by decide +kernel

/-- R27, R28: the level of the CRANK line that is held for 10 ms is qualified. -/
theorem test_debounce_of_crank :
    (lineMoved ⟨true, true, 1⟩ 5000 5 true ⟨false, some false, none⟩).measuring = some ⟨5, 15000⟩ := by
  decide +kernel

/-- R182: a wake with effective IGNITION 0 goes to ATTEND. -/
theorem test_wake_to_attend :
    (wakeByBus (base.setControl { base.control with mode := .parked })).control.mode = .attend := by
  decide +kernel

/-- R184: a memory that leaves its address unacknowledged at three attempts in a row gives cause 1, whichever of
the two address bytes it leaves. -/
theorem test_memory_silent :
    imageFinding ⟨[false, true, false, false], 0, 0, []⟩ = some 1 := by decide +kernel

/-- R184: device address 0x50, word address most significant byte first, here 0x0103, and a repeated start. -/
theorem test_memory_addressed :
    (addressedTo 0x0103 true : List I2cEvent) = [.start, .sent 0b10100000#8 true, .sent 0x01#8 true,
      .sent 0x03#8 true, .repeatedStart, .sent 0b10100001#8 true] := by decide

/-- The journal table of the worked eviction (section 7.9): entries 2000 to 2199 of severity 1, to 2239 of
severity 2 and to 2255 of severity 3, all of the open hire. -/
def fullTable : Vector (Option Entry) 256 :=
  Vector.ofFn fun i => some
    ⟨2000 + i.val, if i.val < 200 then .startup else if i.val < 240 then .longCrank else .overspeed,
      0, none, some ⟨500, 500⟩, none, 0, 0⟩

/-- The hire of section 7.9, with its record, in a hire state. -/
def hire79 (k : HireState) : HireControl :=
  { HireControl.reset with
    state := k, serial := 500
    header := if k = .opened then some ⟨500, 500, 0, none, false, false⟩ else none }

/-- Worked eviction (section 7.9): entry 2256 of severity 1 is dropped, 2257 of severity 3 and 2258 of severity 2
take the slot of the oldest entry of severity 1; once the hire is CLOSING, HIRE CLOSED takes the slot of the
oldest entry. -/
theorem test_worked_eviction :
    chooseSlot (hire79 .opened) fullTable ⟨2256, .ignitionDisagreement, 0, none, some ⟨500, 500⟩, none, 0, 0⟩ = none
      ∧ chooseSlot (hire79 .opened) fullTable ⟨2257, .overspeed, 0, none, some ⟨500, 500⟩, none, 0, 0⟩ = some 0
      ∧ chooseSlot (hire79 .opened) (fullTable.set 0 (some ⟨2257, .overspeed, 0, none, some ⟨500, 500⟩, none, 0, 0⟩))
          ⟨2258, .clutchHot, 0, none, some ⟨500, 500⟩, none, 0, 0⟩ = some 1
      ∧ chooseSlot (hire79 .closing) fullTable ⟨2259, .hireClosed, 0, none, some ⟨500, 500⟩, none, 0, 0⟩ = some 0 := by
  decide +kernel

/-- The part of section 7.9 with a CHECK IN for the hire. -/
def part79 : State :=
  { asking (control [2, 7, 244, 1, 0, 0]) with
    hire := hire79 .opened
    journal := { staging := [], nextSeq := 2259 }
    store := { base.store with journal := fullTable } }

/-- Worked eviction (section 7.9): CHECK IN leaves HIRE CLOSED staged, not dropped; the record is written first. -/
theorem test_check_in_keeps_hire_closed :
    (match exec (.checkIn 0) part79 with
      | .next t => decide (t.journal.staging.map (·.seq) = [2259] ∧ t.table.life[(46 : Fin 47)] = 0
          ∧ t.store.port.record.isSome = true ∧ t.hire.state = .closing)
      | _ => false) = true := by decide +kernel

/-! ## Witnesses of the laws that every step keeps -/

theorem noCheckpoint (p : Checkpoint → Prop) : everyCheckpoint base.store p := by
  constructor
  · intro i c h; simp [base, Store.blank] at h
  · intro j c h; cases h

/-- A step of `base` with a command waiting. -/
def waking : State := base.setPending [.wakeByBus 7]

theorem waking_steps : ∃ t, step waking = .next t := ⟨_, rfl⟩

theorem witness_RemaindersStayInRange : RemainderLaw waking ∧ ∃ t, step waking = .next t :=
  ⟨⟨by unfold remaindersIn; decide +kernel, noCheckpoint _⟩, waking_steps⟩

theorem noCounts (o : Bool) : scopesIn o (Vector.replicate 47 0) (Vector.replicate 47 0) := by
  simp [scopesIn]

theorem base_scopes : ScopeLaw waking := ⟨noCounts _, noCheckpoint _⟩

theorem witness_HireScopeStaysBounded : ScopeLaw waking ∧ ∃ t, step waking = .next t :=
  ⟨base_scopes, waking_steps⟩

theorem witness_StartAttemptsStaySum : StartLaw waking ∧ ∃ t, step waking = .next t :=
  ⟨⟨by simp [startsAgree, waking, base, State.reset, Table.reset],
    by simp [startsAgree, waking, base, State.reset, Table.reset], noCheckpoint _⟩, waking_steps⟩

theorem noTimes : timesAgree (Vector.replicate 47 0) := by
  refine ⟨fun _ _ => by decide +kernel, by simp, by simp, by simp⟩

theorem witness_GearTimesStaySum : TimeLaw waking ∧ ∃ t, step waking = .next t :=
  ⟨⟨base_scopes, noTimes, noTimes, noCheckpoint _⟩, waking_steps⟩

theorem witness_MarksStayBelowIndex : MarkLaw waking ∧ ∃ t, step waking = .next t :=
  ⟨⟨by simp [waking, base, State.reset, Table.reset], noCheckpoint _⟩, waking_steps⟩

theorem witness_LifetimeCountsNeverFall :
    ∃ t, exec (.wakeByBus 7) base = .next t ∧ base.control.mode ≠ .starting ∧ t.control.mode ≠ .starting :=
  ⟨_, rfl, by decide +kernel, by decide +kernel⟩

theorem witness_LinkAccountStaysInAgreement : LinkLaw waking ∧ ∃ t, step waking = .next t :=
  ⟨⟨by decide, by decide, by decide, by decide, fun _ => ⟨0, rfl, by decide, rfl, by decide⟩,
    fun h => (by cases h)⟩, waking_steps⟩

theorem witness_PresentedNoticeStaysAboveMask : NoticeLaw waking ∧ ∃ t, step waking = .next t :=
  ⟨⟨fun _ h => (by cases h), fun _ => rfl, rfl⟩, waking_steps⟩

theorem base_sorted : base.queuesSorted :=
  ⟨by decide, fun _ h => (by cases h), fun _ h => (by cases h), fun _ h => (by cases h), fun _ h => (by cases h)⟩

theorem witness_AnswersFitTheirPlaces : AnswerLaw waking ∧ ∃ t, step waking = .next t :=
  ⟨⟨by decide, .inl rfl, base_sorted⟩, waking_steps⟩

/-- A STATUS request whose step holds the unit, its two answer frames built. -/
def serving : State :=
  { base with
    server := { Server.reset with
      requests := [⟨.request, 2, [1, 9]⟩]
      built := [⟨0x30, [], .answer⟩, ⟨0x30, [], .answer⟩] }
    arbiter := { Arbiter.reset with unit := .step .request } }

theorem serving_sorted : serving.queuesSorted :=
  ⟨by decide, fun _ h => (by cases h), fun _ h => (by cases h), fun _ h => (by cases h), fun _ h => (by cases h)⟩

theorem witness_AnswersFitTheirPlaces_built : AnswerLaw serving :=
  ⟨by decide, .inr ⟨rfl, ⟨.request, 2, [1, 9]⟩, [], rfl, by decide⟩, serving_sorted⟩

theorem witness_HireControlStaysInAgreement : HireLaw waking ∧ ∃ t, step waking = .next t :=
  ⟨⟨⟨by decide, by decide, fun _ h => (by cases h), by decide, by decide, by decide, by decide⟩, by decide,
    noCheckpoint _⟩, waking_steps⟩

theorem witness_FreeUnitHasNothingWaiting : ArbiterLaw waking ∧ ∃ t, step waking = .next t :=
  ⟨⟨by decide, by decide, by decide, by decide⟩, waking_steps⟩

theorem blank_slot (sig : Signal) : slotAgrees sig (.reset ⟨.none, .none⟩) := by
  simp [slotAgrees, originAgrees, Slot.reset, Origin.reset]

theorem witness_SlotsAgreeWithOrigins : BoardLaw waking ∧ ∃ t, step waking = .next t := by
  refine ⟨fun sig => ?_, waking_steps⟩
  have : waking.slot sig = .reset ⟨.none, .none⟩ := by
    simp [waking, base, State.reset, State.slot, Board.reset]
  rw [this]
  exact blank_slot sig

theorem witness_JournalStaysInSequence : JournalLaw waking ∧ ∃ t, step waking = .next t := by
  refine ⟨⟨fun h => ?_, ⟨fun i e h => ?_, fun i j e f h => ?_⟩, trivial, noCheckpoint _, fun _ => ?_⟩,
    waking_steps⟩
  · rcases h with h | h <;> cases h
  · simp [waking, base, Store.blank] at h
  · simp [waking, base, Store.blank] at h
  · refine ⟨by decide, by decide, .nil, fun e h => ?_, fun i e h => ?_⟩
    · cases h
    · simp [waking, base, Store.blank] at h

/-! ## Witnesses: resets, STARTING, link unit -/

theorem witness_PartInResetDoesNothing :
    (base.setControl { base.control with powered := false }).control.powered = false
      ∧ (∀ dt, Instr.partSecondsTick ≠ .startUp dt) ∧ (∀ dt, Instr.partSecondsTick ≠ .supplyLoss dt) :=
  ⟨rfl, fun _ h => (by cases h), fun _ h => (by cases h)⟩

theorem reset_at_reset : AtReset State.reset := by
  refine ⟨rfl, rfl, rfl, rfl, rfl, rfl, rfl, rfl, rfl, rfl, rfl, rfl, rfl, .inl rfl, rfl, rfl⟩

/-- Both profiles: the memory silent; and an image of five bytes with its 16-bit code 0x0459 (section 5.6), in
which every field is absent. -/
theorem witness_StartingEndTakesTheProfile :
    AtReset State.reset ∧ State.reset.control.powered = true
      ∧ imageFinding ⟨[false, false, false], 0, 0, []⟩ = some 1
      ∧ imageFinding ⟨[], 5, 0, [1, 5, 0, 0x59, 0x04]⟩ = none :=
  ⟨reset_at_reset, rfl, by decide +kernel, by decide +kernel⟩

/-- The clauses of the I2C line: no attempt missed, two and three missed, lengths 3, 4, 5, 512 and 513. -/
theorem witness_StartingEndTakesTheProfile_line :
    (∀ k ∈ [0, 2, 3], ∀ image ∈ [[1, 3, 0], [1, 4, 0], [1, 5, 0, 0x59, 0x04], [1, 0, 2], [1, 1, 2]],
      ∀ m : MemoryAnswer, m = ⟨List.replicate k false ++ [true], 100, 0, image⟩ →
        m.readMs ≤ 100 ∧ k ∈ List.range 4 ∧ (∀ b ∈ m.acks.drop k, b = true)
          ∧ m.acks.take k = List.replicate k false)
    ∧ 100 < (⟨[], 101, 4, []⟩ : MemoryAnswer).readMs := by
  refine ⟨?_, by decide⟩
  rintro k hk image hi m rfl
  revert k image
  decide

/-- A part held at reset with one checkpoint in its ring. -/
def retaining : State :=
  State.reset.setStore { Store.blank with ring := Store.blank.ring.set 3 (some (checkpoint 4)) }

theorem witness_StartingEndRestoresTheNewestCheckpoint :
    (AtReset retaining ∧ retaining.control.powered = true ∧ Newest retaining.store.ring 3 (checkpoint 4))
      ∧ (AtReset State.reset ∧ State.reset.control.powered = true
          ∧ ∀ i : Fin 32, State.reset.store.ring[i] = none) := by
  refine ⟨⟨⟨rfl, rfl, rfl, rfl, rfl, rfl, rfl, rfl, rfl, rfl, rfl, rfl, rfl, .inl rfl, rfl, rfl⟩, rfl, ?_, ?_⟩,
    reset_at_reset, rfl, fun i => by simp [State.reset, Store.blank]⟩
  · simp [retaining, Store.blank]
  · intro j y h
    by_cases k : j = 3
    · subst k
      have : checkpoint 4 = y := by simpa [retaining, Store.blank] using h
      subst this
      exact .inr ⟨rfl, le_refl _⟩
    · have : (3 : Nat) ≠ j.val := fun e => k (Fin.ext e.symm)
      simp [retaining, Store.blank, this] at h

/-- A part held at reset with one checkpoint of a kind in slot 31. -/
def kept (k : CheckpointKind) : State :=
  State.reset.setStore { Store.blank with ring := Store.blank.ring.set 31 (some { checkpoint 4 with kind := k }) }

/-- A part that waits for the end of a DEPOT RESTART. -/
def restarting (w : RestartWait) (s : State) : State := s.setControl { s.control with restart := some w }

/-- The RESTART answer in the transmitter. -/
def answering : State :=
  base.setLink { base.link with transmitter := some ⟨⟨0x30, [], .restartAnswer⟩, 0⟩ }

/-- The write of the RESTART checkpoint in progress. -/
def writing : State := porting (.checkpoint ⟨false, .restart, false, true⟩ (checkpoint 7))

/-- The three events that carry out a DEPOT RESTART. -/
theorem witness_RecoveryGivesItsResult_restart :
    (base.control.powered = true ∧ (restarting ⟨true, false, some 9⟩ base).control.powered = true
      ∧ (restarting ⟨true, false, some 9⟩ base).control.restart = some ⟨true, false, some 9⟩)
    ∧ ((restarting ⟨true, false, some 9⟩ answering).attempting = true
      ∧ (restarting ⟨true, false, some 9⟩ answering).link.transmitter.any
          (fun x => decide (x.frame.kind = .restartAnswer)) = true)
    ∧ ((restarting ⟨false, true, none⟩ writing).control.restart = some ⟨false, true, none⟩
      ∧ (restarting ⟨false, true, none⟩ writing).store.port.job.any (·.forRestart) = true
      ∧ ∀ j, (restarting ⟨false, true, none⟩ writing).store.port ≠ .snapshot j) :=
  ⟨⟨rfl, rfl, rfl⟩, ⟨rfl, rfl⟩, rfl, rfl, fun _ h => (by cases h)⟩

/-- The three results, and the reset that ends a RESTART. -/
theorem witness_RecoveryGivesItsResult :
    (AtReset State.reset ∧ State.reset.control.powered = true
      ∧ (∀ (i : Fin 256) (e : Entry), State.reset.store.journal[i] = some e → e.seq + 1 < ceiling)
      ∧ (∃ i : Fin 256, State.reset.store.journal[i] = none) ∧ ∀ i : Fin 32, State.reset.store.ring[i] = none)
    ∧ (∀ k : CheckpointKind, AtReset (kept k) ∧ (kept k).control.powered = true
      ∧ (∀ (i : Fin 256) (e : Entry), (kept k).store.journal[i] = some e → e.seq + 1 < ceiling)
      ∧ (∃ i : Fin 256, (kept k).store.journal[i] = none)
      ∧ Newest (kept k).store.ring 31 { checkpoint 4 with kind := k } ∧ (checkpoint 4).nextSeq < ceiling)
    ∧ (base.setControl { base.control with restart := some ⟨true, false, some 9⟩ }).control.restart
        = some ⟨true, false, some 9⟩ := by
  refine ⟨⟨reset_at_reset, rfl, ?_, ⟨0, ?_⟩, ?_⟩, fun k => ⟨?_, rfl, ?_, ⟨0, ?_⟩, ⟨?_, ?_⟩, by decide⟩, rfl⟩
  · intro i e h; simp [State.reset, Store.blank] at h
  · simp [State.reset, Store.blank]
  · simp [State.reset, Store.blank]
  · exact ⟨rfl, rfl, rfl, rfl, rfl, rfl, rfl, rfl, rfl, rfl, rfl, rfl, rfl, .inl rfl, rfl, rfl⟩
  · intro i e h; simp [kept, State.reset, Store.blank] at h
  · simp [kept, Store.blank]
  · simp [kept, Store.blank]
  · intro j y h
    by_cases e : j = 31
    · subst e
      have : { checkpoint 4 with kind := k } = y := by simpa [kept, Store.blank] using h
      subst this
      exact .inr ⟨rfl, le_refl _⟩
    · have : (31 : Nat) ≠ j.val := fun h => e (Fin.ext h.symm)
      simp [kept, Store.blank, this] at h

/-- The link in BUS OFF with its recovery count at 128. -/
def busOffPart : State :=
  base.setLink { base.link with state := .busOff, tec := none, recovery := 128 }

theorem witness_JoiningErrorsAndRecovery :
    (base.attentive ∧ base.receives = true)
      ∧ (waking.setLink { base.link with participation := .joining }).link.participation = .joining
      ∧ (busOffPart.attentive ∧ busOffPart.link.state = .busOff ∧ busOffPart.onBus = true
          ∧ 128 ≤ busOffPart.link.recovery ∧ busOffPart.receives = false) :=
  ⟨⟨⟨rfl, rfl⟩, rfl⟩, rfl, ⟨rfl, rfl⟩, rfl, rfl, by decide, rfl⟩

/-- A frame of the part's block at an offset. -/
def blockFrame (offset : Nat) (remote : Bool) : Frame :=
  ⟨true, remote, BitVec.ofNat 29 (0x1C5D4000 + offset), 0, []⟩

/-- The boundary offsets: the request frames, the first and the last page, and both neighbours of the pages. -/
theorem witness_RequestFrameIsTaken :
    base.attentive ∧ base.receives = true
      ∧ (∀ f ∈ [blockFrame 0x08 false, blockFrame 0x09 false, blockFrame 0x0A false, blockFrame 0x0B false,
            blockFrame 0x40 true, blockFrame 0x47 true, blockFrame 0x3F true, blockFrame 0x48 true],
          f.extended = true ∧ inBlock base.profile.base f.ident = true)
      ∧ (blockFrame 0x47 true).ident.toNat % 256 = 0x47 ∧ (blockFrame 0x48 true).ident.toNat % 256 = 0x48 := by
  refine ⟨⟨rfl, rfl⟩, rfl, by decide +kernel, by decide +kernel, by decide +kernel⟩

/-- `base` with the source table of the example of matching order. -/
def matching : State := base.setProfile { base.profile with entries := matchers }

theorem witness_MatchedFrameIsAdmitted :
    (base.attentive ∧ base.receives = true
      ∧ ¬ ((Frame.mk true false 0x0CF00417#29 0 []).extended = true
          ∧ inBlock base.profile.base 0x0CF00417#29 = true))
      ∧ (matchedSet base.profile.entries ⟨true, false, 0x0CF00417#29, 0, []⟩ = [] ∧ base.intake.slots = [])
      ∧ (matching.attentive ∧ matching.receives = true
          ∧ matchedSet matching.profile.entries ⟨true, false, 0x0CF00417#29, 0, []⟩ ≠ []) := by
  refine ⟨⟨⟨rfl, rfl⟩, rfl, by decide +kernel⟩, ⟨by decide +kernel, rfl⟩, ⟨rfl, rfl⟩, rfl, by decide +kernel⟩

/-- `matching` with its entry 2 reading ENGINE SPEED from one unsigned byte, and its primary origin BUS. -/
def decoding : State :=
  putSlot .engineSpeed { primary := ⟨.bus, none, 0, false, none⟩, alternate := ⟨.none, none, 0, false, none⟩
                         effective := none, state := .never, holdTimer := none }
    (matching.setProfile { matching.profile with
      entries := (Vector.replicate 16 emptyEntry).set 2
        { matcher false 0x0CF00400#32 0xFFFFFF00#32 with staleness := 10 } })

/-- A decode of an empty frame (SHORT), of the not-available pattern, of a value, and of the boundary 0xFE; the
only matching entry is 2. -/
theorem witness_MatchedFrameIsAdmitted_decode :
    (decoding.attentive ∧ decoding.receives = true ∧ decoding.arbiter.unit = .free ∧ decoding.intake.slots = [])
      ∧ ((decoding.slot .engineSpeed).origin .primary).kind = .bus
      ∧ (∀ l ∈ [([] : List Byte), [0xFF], [0xFE], [7]],
          matchedSet decoding.profile.entries ⟨true, false, 0x0CF00400#29, l.length, l⟩ = [2])
      ∧ Signal.ofCode decoding.profile.entries[(2 : Fin 16)].signalCode = some .engineSpeed
      ∧ decoding.profile.entries[(2 : Fin 16)].fieldType = 0 ∧ 0 < decoding.profile.entries[(2 : Fin 16)].staleness
      ∧ isNotAvailable 0 (rawOf decoding.profile.entries[(2 : Fin 16)] [0xFF]) = true
      ∧ isNotAvailable 0 (rawOf decoding.profile.entries[(2 : Fin 16)] [0xFE]) = false
      ∧ rawOf decoding.profile.entries[(2 : Fin 16)] [7] = 7 := by
  refine ⟨⟨⟨rfl, rfl⟩, rfl, rfl, rfl⟩, ?_, by decide +kernel, by decide +kernel, by decide +kernel,
    by decide +kernel, by decide +kernel, by decide +kernel, by decide +kernel⟩
  simp [decoding, Slot.origin]

/-- `decoding` with its entry 2 reading CALENDAR from four bytes at a rank, and both origins of the slot BUS. -/
def dating (alternate : Bool) (k : SlotState) : State :=
  putSlot .calendar { primary := ⟨.bus, none, 0, false, none⟩, alternate := ⟨.bus, none, 0, false, none⟩
                      effective := none, state := k, holdTimer := none }
    (decoding.setProfile { decoding.profile with
      entries := decoding.profile.entries.set 2 { decoding.profile.entries[(2 : Fin 16)] with
        signalCode := 10, fieldType := 4, alternate := alternate } })

/-- A CALENDAR report of each rank, the slot FRESH-PRIMARY and not; the alternate one leaves the base of a
FRESH-PRIMARY slot. -/
theorem witness_MatchedFrameIsAdmitted_calendar :
    ∀ a : Bool, ∀ k ∈ [SlotState.freshPrimary, .never],
      (dating a k).attentive ∧ (dating a k).receives = true ∧ (dating a k).arbiter.unit = .free
        ∧ (dating a k).intake.slots = []
        ∧ matchedSet (dating a k).profile.entries ⟨true, false, 0x0CF00400#29, 4, [1, 2, 0, 0]⟩ = [2]
        ∧ Signal.ofCode (dating a k).profile.entries[(2 : Fin 16)].signalCode = some .calendar
        ∧ (((dating a k).slot .calendar).origin (if a then .alternate else .primary)).kind = .bus
        ∧ 0 < (dating a k).profile.entries[(2 : Fin 16)].staleness
        ∧ (match exec (.frameReceived 0 ⟨true, false, 0x0CF00400#29, 4, [1, 2, 0, 0]⟩) (dating a k) with
            | .next t => decide (t.control.calendar =
                if a = true ∧ k = .freshPrimary then none else some ⟨513, 0⟩)
            | _ => false) = true := by
  intro a k h
  simp only [List.mem_cons, List.not_mem_nil, or_false] at h
  rcases h with rfl | rfl <;> cases a <;>
    exact ⟨⟨rfl, rfl⟩, rfl, rfl, rfl, by decide +kernel, by decide +kernel, by decide +kernel,
      by decide +kernel, by decide +kernel⟩

/-- The last frame of an item in the transmitter of a running stream. -/
def streamed (part : StreamPart) : State :=
  (base.setLink { base.link with transmitter := some ⟨⟨0x50, [], .stream part true⟩, 0⟩ }).setStream
    { StreamEngine.reset with running := some { streaming with noMore := true } }

/-- A part in STARTING after a DEPOT RESTART that left an attempt on the bus. -/
def completing : State :=
  State.reset.setLink { Link.reset with
    participation := .leaving, transmitter := some ⟨⟨0x20, [], .notice⟩, 0⟩ }

/-- The next frame of each queue in turn, a held one, a stream frame before and after its gap; the last frame of
a stream that ends and of one that goes on; and an attempt that ends in STARTING. -/
theorem witness_AttemptSucceedsOrLoses_next :
    (sending.maySend = true ∧ sending.control.mode ≠ .starting ∧ sending.streamGoesOn
      ∧ sending.link.answers = [] ∧ sending.server.held = [] ∧ sending.reserved < 4)
    ∧ (∀ part : StreamPart, (streamed part).attentive ∧ (streamed part).attempting = true
        ∧ (streamed part).stream.running = some { streaming with noMore := true }
        ∧ (streamed part).stream.continuation = none ∧ (streamed part).link.stream = none)
    ∧ (completing.attentive ∧ completing.attempting = true ∧ completing.control.mode = .starting) :=
  ⟨⟨rfl, by decide, fun _ h => (by cases h), rfl, rfl, by decide⟩, fun _ => ⟨⟨rfl, rfl⟩, rfl, rfl, rfl, rfl⟩,
    ⟨rfl, rfl⟩, rfl, rfl⟩

theorem witness_AttemptSucceedsOrLoses :
    sending.attentive ∧ sending.link.transmitter = some ⟨⟨0x20, [], .notice⟩, 0⟩
      ∧ sending.attempting = true := ⟨⟨rfl, rfl⟩, rfl, rfl⟩

/-- A transmitter whose TEC is about to rise to 255, and one about to enter BUS OFF at 256. -/
theorem witness_TransmitErrorRaisesTec :
    ∀ n ∈ [247, 248], (sending.setLink { sending.link with tec := some n }).attentive
      ∧ (sending.setLink { sending.link with tec := some n }).link.transmitter
          = some ⟨⟨0x20, [], .notice⟩, 0⟩
      ∧ (sending.setLink { sending.link with tec := some n }).attempting = true
      ∧ (sending.setLink { sending.link with tec := some n }).link.tec = some n :=
  fun _ _ => ⟨⟨rfl, rfl⟩, rfl, rfl, rfl⟩

theorem witness_TransmitErrorRaisesTec_starting :
    completing.attentive ∧ completing.link.transmitter = some ⟨⟨0x20, [], .notice⟩, 0⟩
      ∧ completing.attempting = true ∧ completing.link.tec = some 0 ∧ completing.control.mode = .starting :=
  ⟨⟨rfl, rfl⟩, rfl, rfl, rfl, rfl⟩

/-! ## Witnesses: signal board and input unit -/

/-- A FRESH-PRIMARY slot whose alternate is FRESH too. -/
def freshSlot (alternate : Bool) : Slot :=
  { primary := ⟨.bus, some (.num 4), 0, true, some 9000⟩
    alternate := ⟨.bus, some (.num 5), 0, alternate, if alternate then some 9500 else none⟩
    effective := some (.num 4), state := .freshPrimary, holdTimer := none }

theorem witness_FreshnessExpiryMovesTheSlot :
    ∀ b : Bool, ((putSlot .coolant (freshSlot b) base).attentive
      ∧ (((putSlot .coolant (freshSlot b) base).slot .coolant).origin .primary).timer = some 9000
      ∧ (((putSlot .coolant (freshSlot b) base).slot .coolant).origin .primary).fresh = true)
    ∧ (((putSlot .coolant (freshSlot true) base).slot .coolant).origin .alternate).timer = some 9500 := by
  intro b
  refine ⟨⟨⟨rfl, rfl⟩, ?_, ?_⟩, ?_⟩ <;> simp [freshSlot, Slot.origin]

/-- The two watched signals, with the unit free and in a pass. -/
theorem witness_FreshnessExpiryMovesTheSlot_watched :
    ∀ sig ∈ [Signal.gear, .clutchEngagement], ∀ u ∈ [UnitState.free, .pass],
      let s := putSlot sig (freshSlot true) (base.setArbiter { Arbiter.reset with unit := u })
      s.attentive ∧ ((s.slot sig).origin .primary).timer = some 9000
        ∧ ((s.slot sig).origin .primary).fresh = true ∧ s.arbiter.unit = u
        ∧ s.board.handedGear = none ∧ s.board.handedClutch = none := by
  intro sig _ u _
  refine ⟨⟨rfl, rfl⟩, ?_, ?_, rfl, rfl, rfl⟩ <;> simp [freshSlot, Slot.origin]

/-- A HELD slot. -/
def heldSlot : Slot :=
  { freshSlot false with
    primary := ⟨.bus, some (.num 4), 0, false, none⟩, state := .held, holdTimer := some 8000 }

theorem witness_HoldExpiryLosesTheSlot :
    let s := putSlot .engineSpeed heldSlot (base.setStart { StartMachine.reset with state := .running })
    s.attentive ∧ (s.slot .engineSpeed).holdTimer = some 8000 ∧ (s.slot .engineSpeed).state = .held
      ∧ s.start.state = .running := by
  refine ⟨⟨rfl, rfl⟩, ?_, ?_, rfl⟩ <;> simp [heldSlot]

/-- A line in each of the four cases of LINE_CHANGE, and a shaft line in each of the four cases of
SHAFT_EDGE_CANDIDATE. -/
theorem witness_LevelChangesAreTimed :
    (base.attentive
      ∧ (base.inputs.line .crank).qualified = none
      ∧ (⟨false, some false, none⟩ : LineState).qualified ≠ none
      ∧ (⟨true, some false, some ⟨1, 11000⟩⟩ : LineState).qualified = some (false == fallbackProfile.crankLine.activeHigh)
      ∧ (⟨false, some false, none⟩ : LineState).qualified = some (true != fallbackProfile.crankLine.activeHigh))
    ∧ ((base.shaft.pin .a).accepted = none
      ∧ (⟨false, some false, none⟩ : ShaftPin).candidate = none
      ∧ (⟨true, some false, some 5⟩ : ShaftPin).candidate ≠ none) := by
  refine ⟨⟨⟨rfl, rfl⟩, rfl, by decide, rfl, rfl⟩, rfl, rfl, by decide⟩

theorem witness_QualifiedLineFeedsItsSignal :
    (StartingLaw waking ∧ LostLaw waking ∧ ∃ t, step waking = .next t)
    ∧ ∀ line ∈ [SenseLine.ignition, .crank, .clutchPedal], ∀ q : Bool,
      let s := base.setInputs (base.inputs.setLine (measured q) line)
      s.attentive ∧ LostLaw s ∧ (s.inputs.line line).measuring = some ⟨100, 110000⟩
        ∧ (s.inputs.line line).qualified = some q := by
  refine ⟨⟨fun h => ?_, fun h => absurd h (by decide +kernel), waking_steps⟩, ?_⟩
  · rcases h with h | h <;> cases h
  · intro line _ q
    have none : base.notices.conditions[(6 : Fin 14)] ≠ true := by decide +kernel
    cases line <;> exact ⟨⟨rfl, rfl⟩, fun h => absurd h none, rfl, rfl⟩

/-- A part in a mode with the SIGNAL LOST condition pending for a LOST ENGINE SPEED slot, whose IGNITION slot has
a LINE origin, the line measured away from the level that was handed last. -/
def litBy (mode : PowerMode) (q : Bool) : State :=
  { base with
    control := { base.control with mode := mode }
    notices := { Notices.reset with conditions := Notices.reset.conditions.set 6 true }
    inputs := { base.inputs with ignition := measured q }
    board := { Board.reset with
      handedIgnition := q
      slots := (Board.reset.slots.set 0 { freshSlot false with effective := none, state := .lost }).set 8
        { freshSlot false with
          primary := ⟨.line, some (.num (if q then 1 else 0)), 0, true, none⟩
          effective := some (.num (if q then 1 else 0)) } } }

/-- The IGNITION line in each of the three modes, its new level the one not handed last: RUN to ATTEND, ATTEND and
PARKED to RUN. -/
theorem witness_QualifiedLineFeedsItsSignal_mode :
    ∀ x ∈ [(PowerMode.run, true), (.attend, false), (.parked, false)],
      (litBy x.1 x.2).attentive ∧ LostLaw (litBy x.1 x.2) ∧ (litBy x.1 x.2).notices.conditions[6] = true
        ∧ ((litBy x.1 x.2).inputs.line .ignition).measuring = some ⟨100, 110000⟩
        ∧ ((litBy x.1 x.2).inputs.line .ignition).qualified = some x.2
        ∧ ((litBy x.1 x.2).slot .ignition).primary.kind = .line
        ∧ (litBy x.1 x.2).board.handedIgnition = x.2 ∧ (litBy x.1 x.2).control.mode = x.1
        ∧ (litBy x.1 x.2).store.state ≠ .faulted
        ∧ (match exec (.lineQualified .ignition) (litBy x.1 x.2) with
            | .next t => decide (t.ignitionOn = !x.2 ∧ t.control.mode = if x.1 = .run then .attend else .run)
            | _ => false) = true := by
  intro x h
  simp only [List.mem_cons, List.not_mem_nil, or_false] at h
  rcases h with rfl | rfl | rfl <;>
    exact ⟨⟨rfl, rfl⟩, fun _ => ⟨.engineSpeed, rfl, by decide +kernel⟩, by decide +kernel, rfl, rfl,
      by decide +kernel, rfl, rfl, by decide, by decide +kernel⟩

theorem witness_PowerWarningQuiescesTheStore :
    ∀ q : Bool, (base.setInputs { base.inputs with powerWarning := measured q }).attentive
      ∧ (base.setInputs { base.inputs with powerWarning := measured q }).inputs.powerWarning.measuring
          = some ⟨100, 110000⟩
      ∧ (base.setInputs { base.inputs with powerWarning := measured q }).inputs.powerWarning.qualified
          = some q := fun _ => ⟨⟨rfl, rfl⟩, rfl, rfl⟩

theorem witness_AcceptedEdgeIsCounted :
    ∀ line : ShaftLine,
      (base.setShaft (base.shaft.setPin ⟨true, some false, some 40⟩ line)).attentive
        ∧ ((base.setShaft (base.shaft.setPin ⟨true, some false, some 40⟩ line)).shaft.pin line).candidate
            = some 40 := by
  intro line; cases line <;> exact ⟨⟨rfl, rfl⟩, rfl⟩

/-- The second rising edge of a chain, 2600 us after the first, with a period of 4000 us held, outside a pass and
in one; and an edge of B against the direction at the reversal rpm. -/
theorem witness_AcceptedEdgeIsCounted_chain :
    ∀ u ∈ [UnitState.free, .pass], ∀ line : ShaftLine,
      let s := (base.setArbiter { Arbiter.reset with unit := u }).setShaft
        { base.shaft.setPin ⟨true, some false, some 9000⟩ line with
          chain := some 6400, period := some 4000, direction := some .reverse
          speed := base.profile.reversalRpm }
      s.attentive ∧ (s.shaft.pin line).candidate = some 9000 ∧ s.shaft.chain = some 6400
        ∧ s.shaft.period = some 4000 ∧ s.shaft.holdoff = none ∧ s.awake = true ∧ s.arbiter.unit = u := by
  intro u _ line; cases line <;> exact ⟨⟨rfl, rfl⟩, rfl, rfl, rfl, rfl, rfl, rfl⟩

theorem witness_SpeedTimeoutBreaksTheChain :
    (base.setShaft { base.shaft with timeout := some 2000000 }).attentive
      ∧ (base.setShaft { base.shaft with timeout := some 2000000 }).shaft.timeout = some 2000000 :=
  ⟨⟨rfl, rfl⟩, rfl⟩

/-- All four timers armed, the STREAM queue the only one with a frame. -/
def timed : State :=
  { base with
    inputs := { base.inputs with shaft := { base.inputs.shaft with holdoff := some 600 } }
    server := { Server.reset with holdTimer := some 600 }
    link := { base.link with lastStreamEnd := some 100, stream := some ⟨0x50, [], .stream .inside true⟩ }
    control := { base.control with secondsTimer := some 600 } }

theorem witness_PlainTimersRunOut :
    timed.attentive ∧ timed.shaft.holdoff = some 600 ∧ timed.server.holdTimer = some 600
      ∧ timed.link.lastStreamEnd = some 100 ∧ timed.control.secondsTimer = some 600
      ∧ (timed.maySend = true ∧ timed.link.transmitter = none
          ∧ answersOut timed.link ++ timed.server.held = [] ∧ timed.stream.running = none) :=
  ⟨⟨rfl, rfl⟩, rfl, rfl, rfl, rfl, rfl, rfl, rfl, rfl⟩

/-- A STREAM frame waits of a stream that is running. -/
theorem witness_PlainTimersRunOut_running :
    (timed.setStream { StreamEngine.reset with running := some streaming }).attentive
      ∧ (timed.setStream { StreamEngine.reset with running := some streaming }).maySend = true
      ∧ (timed.setStream { StreamEngine.reset with running := some streaming }).stream.running = some streaming
      ∧ (timed.setStream { StreamEngine.reset with running := some streaming }).link.stream
          = some ⟨0x50, [], .stream .inside true⟩ := ⟨⟨rfl, rfl⟩, rfl, rfl, rfl⟩

/-! ## Witnesses: tally engine and mode controller -/

/-- An intake slot of a frame without data. -/
def slot : IntakeSlot := ⟨true, 5, 0, [], 0, [2]⟩

/-- A state with the arithmetic unit taken. -/
def unitAt (u : UnitState) : State := base.setArbiter { Arbiter.reset with unit := u }

theorem witness_UnitIsGrantedInOrder :
    ((unitAt .decode).setIntake { Intake.reset with slots := [slot] }).attentive
      ∧ ((unitAt .decode).setIntake { Intake.reset with slots := [slot] }).intake.slots = [slot]
      ∧ (unitAt .pass).attentive ∧ (unitAt .pass).arbiter.unit = .pass ∧ (unitAt .pass).arbiter.steps = []
      ∧ (unitAt (.step .page)).attentive ∧ (unitAt (.step .page)).arbiter.unit = .step .page
      ∧ ((unitAt .pass).setArbiter { (unitAt .pass).arbiter with steps := [.page] }).arbiter.steps
          = .page :: [] :=
  ⟨⟨rfl, rfl⟩, rfl, ⟨rfl, rfl⟩, rfl, rfl, ⟨rfl, rfl⟩, rfl, rfl⟩

/-- The end of a pass for which a shift and a reversal are held, with nothing else waiting. -/
theorem witness_UnitIsGrantedInOrder_held :
    let s := base.setArbiter { Arbiter.reset with
      unit := .pass, held := [⟨5, .gear 5 (some 1) (some 2)⟩, ⟨6, .shaftReversal 300⟩] }
    s.attentive ∧ s.arbiter.unit = .pass ∧ s.arbiter.steps = [] ∧ s.arbiter.tickWaiting = false
      ∧ s.intake.slots = []
      ∧ (match exec (.passComplete 0) s with
          | .next t => decide (t.table.life[(22 : Fin 47)] = 1 ∧ t.table.life[(41 : Fin 47)] = 1)
          | _ => false) = true :=
  ⟨⟨rfl, rfl⟩, rfl, rfl, rfl, rfl, by decide +kernel⟩

/-- The tick timer armed. -/
def ticking (u : UnitState) : State :=
  base.setArbiter { Arbiter.reset with unit := u, tickTimer := some 100000 }

theorem witness_UnitIsGrantedInOrder_step :
    serving.attentive ∧ serving.queuesSorted ∧ serving.arbiter.unit = .step .request
      ∧ WholeStep.request ∉ serving.arbiter.steps ∧ serving.server.built.length = 2 :=
  ⟨⟨rfl, rfl⟩, serving_sorted, rfl, by decide, rfl⟩

theorem witness_UnitIsGrantedInOrder_tick :
    ((ticking .free).attentive ∧ (ticking .free).arbiter.tickTimer = some 100000
      ∧ (ticking .free).arbiter.unit = .free)
    ∧ ((ticking .pass).attentive ∧ (ticking .pass).arbiter.tickTimer = some 100000
      ∧ (ticking .pass).arbiter.unit ≠ .free) :=
  ⟨⟨⟨rfl, rfl⟩, rfl, rfl⟩, ⟨rfl, rfl⟩, rfl, by decide⟩

/-- A slot with an effective value. -/
def valued (v : Int) : Slot :=
  { freshSlot false with effective := some (.num v) }

theorem valued_effective (sig : Signal) (v : Int) (s : State) :
    (putSlot sig (valued v) s).effectiveNum sig = some v := by
  simp [State.effectiveNum, State.effective, valued, Value.num?]

/-- N at the run threshold of 350 rpm, with the engine RUNNING, and clutch and speed signals known. -/
theorem witness_RunningPassCounts :
    (putSlot .engineSpeed (valued 350) ((ticking .free).setStart
        { StartMachine.reset with state := .running })).effectiveNum .engineSpeed = some 350
      ∧ ((ticking .free).profile.runThreshold : Int) ≤ 350
      ∧ (ticking .free).attentive ∧ (ticking .free).arbiter.tickTimer = some 100000
      ∧ (∀ sig ∈ [Signal.engineTorque, .inputShaftSpeed, .clutchEngagement, .vehicleSpeed], ∀ s : State,
          (putSlot sig (valued 5) s).effectiveNum sig = some 5) :=
  ⟨valued_effective _ _ _, by decide, ⟨rfl, rfl⟩, rfl, fun sig _ s => valued_effective sig 5 s⟩

/-- The same pass with a hire open: its counts reach the hire scope. -/
theorem witness_RunningPassCounts_hire :
    let s := hired (putSlot .engineSpeed (valued 350) ((ticking .free).setStart
      { StartMachine.reset with state := .running })) 7
    s.attentive ∧ s.arbiter.tickTimer = some 100000 ∧ s.arbiter.unit = .free ∧ s.start.state = .running
      ∧ s.effectiveNum .engineSpeed = some 350 ∧ s.hire.state = .opened
      ∧ (match exec .tallyTick s with
          | .next t => decide (t.table.hire[(9 : Fin 47)] = 1 ∧ t.table.life[(45 : Fin 47)] = 0)
          | _ => false) = true := by
  refine ⟨⟨rfl, rfl⟩, rfl, rfl, rfl, valued_effective _ _ _, rfl, by decide +kernel⟩

/-- The twentieth confirming pass of a cold attempt: the cold charge of 3000 reaches EQUIVALENT TIME. -/
theorem witness_CranksAreCounted_cold :
    let s := putSlot .engineSpeed (valued 350) ((ticking .free).setStart
      { StartMachine.reset with state := .confirming, confirmed := 19, cold := true })
    s.attentive ∧ s.arbiter.tickTimer = some 100000 ∧ s.arbiter.unit = .free
      ∧ s.effectiveNum .engineSpeed = some 350
      ∧ (match exec .tallyTick s with
          | .next t => decide (t.table.life[(1 : Fin 47)] = 1 ∧ 3000 ≤ t.table.life[(11 : Fin 47)])
          | _ => false) = true := by
  refine ⟨⟨rfl, rfl⟩, rfl, rfl, valued_effective _ _ _, by decide +kernel⟩

/-- A pass in each state of the start machine. -/
theorem witness_passes :
    ∀ k : StartState, ((ticking .free).setStart { StartMachine.reset with state := k }).attentive
      ∧ ((ticking .free).setStart { StartMachine.reset with state := k }).arbiter.tickTimer = some 100000
      ∧ ((ticking .free).setStart { StartMachine.reset with state := k }).arbiter.unit = .free
      ∧ ((ticking .free).setStart { StartMachine.reset with state := k }).start.state = k :=
  fun _ => ⟨⟨rfl, rfl⟩, rfl, rfl, rfl⟩

/-- A crank in progress since 40 ms, its CRANK line measured to inactive. -/
def cranking : State :=
  { base with
    start := { StartMachine.reset with state := .cranking, begunMs := 40, longTimer := some 15000000 }
    inputs := { base.inputs with crank := measured true }
    board := { Board.reset with
      handedCrank := true
      slots := Board.reset.slots.set 7 { freshSlot false with primary := ⟨.line, some (.num 1), 0, true, none⟩ } } }

theorem witness_CranksAreCounted :
    cranking.attentive ∧ cranking.start.longTimer = some 15000000 ∧ cranking.arbiter.unit ≠ .pass
      ∧ cranking.start.state = .cranking ∧ cranking.inputs.crank.measuring = some ⟨100, 110000⟩
      ∧ cranking.inputs.crank.qualified = some true ∧ (cranking.slot .crank).primary.kind = .line
      ∧ cranking.board.handedCrank = true :=
  ⟨⟨rfl, rfl⟩, rfl, by decide, rfl, rfl, rfl, by decide +kernel, rfl⟩

/-- A crank line measured away from the level handed last, in a start machine state, with the unit in a state, a
hire open, and a crank in progress while RUNNING. -/
def crankAt (k : StartState) (q : Bool) (u : UnitState) : State :=
  { hired cranking 7 with
    start := { cranking.start with state := k, inCrank := k == .running && q, cold := true }
    inputs := { base.inputs with crank := measured q }
    board := { cranking.board with handedCrank := q }
    arbiter := { Arbiter.reset with unit := u } }

/-- A begin and an end of a crank in every state of the start machine, outside a pass and in one; a cold attempt
that fails counts in the hire scope too. -/
theorem witness_CranksAreCounted_events :
    (∀ k : StartState, ∀ q : Bool, ∀ u ∈ [UnitState.free, .pass],
      (crankAt k q u).attentive ∧ (crankAt k q u).inputs.crank.measuring = some ⟨100, 110000⟩
        ∧ (crankAt k q u).inputs.crank.qualified = some q ∧ (crankAt k q u).board.handedCrank = q
        ∧ ((crankAt k q u).slot .crank).primary.kind = .line ∧ (crankAt k q u).start.state = k
        ∧ (crankAt k q u).arbiter.unit = u ∧ (crankAt k q u).hire.state = .opened)
    ∧ (match exec (.lineQualified .crank) (crankAt .confirming false .free) with
        | .next t => decide (t.start.state = .cranking ∧ t.table.hire[(2 : Fin 47)] = 1
            ∧ t.table.life[(6 : Fin 47)] = 20)
        | _ => false) = true := by
  refine ⟨fun k q u _ => ⟨⟨rfl, rfl⟩, rfl, rfl, rfl, ?_, rfl, rfl, rfl⟩, by decide +kernel⟩
  have : (crankAt k q u).slot .crank = cranking.slot .crank := rfl
  rw [this]; decide +kernel

theorem witness_WakeStartsTheAwakeClocks :
    (base.setControl { base.control with mode := .parked }).attentive
      ∧ (base.setControl { base.control with mode := .parked }).control.mode = .parked
      ∧ base.attentive ∧ base.control.mode ≠ .parked := ⟨⟨rfl, rfl⟩, rfl, ⟨rfl, rfl⟩, by decide⟩

/-- The park timer armed, with the store in a state. -/
def parking (st : StoreState) : State :=
  (base.setControl { base.control with mode := .attend, parkTimer := some 60000000 }).setStore
    { base.store with state := st }

theorem witness_ParkTimerAsksForACheckpoint :
    (ParkLaw waking ∧ ∃ t, step waking = .next t)
    ∧ ((parking .normal).attentive ∧ ParkLaw (parking .normal)
      ∧ (parking .normal).control.parkTimer = some 60000000 ∧ (parking .normal).store.state ≠ .faulted)
    ∧ ((parking .faulted).attentive ∧ ParkLaw (parking .faulted)
      ∧ (parking .faulted).control.parkTimer = some 60000000 ∧ (parking .faulted).store.state = .faulted) :=
  ⟨⟨fun h => absurd rfl h, waking_steps⟩, ⟨⟨rfl, rfl⟩, fun _ => rfl, rfl, by decide⟩, ⟨rfl, rfl⟩, fun _ => rfl,
    rfl, rfl⟩

theorem witness_RestartWaitEndsInAReset :
    ∀ b : Bool, (base.setControl { base.control with restart := some ⟨b, false, some 9⟩ }).control.powered = true
      ∧ (base.setControl { base.control with restart := some ⟨b, false, some 9⟩ }).control.restart
          = some ⟨b, false, some 9⟩ := fun _ => ⟨rfl, rfl⟩

/-- A frame in the transmitter, which may be in an attempt, and none. -/
theorem witness_RestartWaitEndsInAReset_attempt :
    (sending.link.participation = .joined ∧ sending.link.transmitter.isSome = true ∧ sending.link.state ≠ .busOff)
      ∧ base.link.transmitter = none := ⟨⟨rfl, rfl, by decide⟩, rfl⟩

/-! ## Witnesses: retained store -/

/-- A checkpoint job of the EVENT kind, one that a park waits for, and a FINAL CHECKPOINT job. -/
def eventJob : PortJob := ⟨false, .event, false, false⟩
def parkJob : PortJob := ⟨false, .park, true, false⟩
def finalJob : PortJob := ⟨true, .final, false, false⟩

theorem witness_SnapshotHoldsTheState :
    ((porting (.snapshot eventJob)).attentive ∧ (porting (.snapshot eventJob)).store.port = .snapshot eventJob
      ∧ snapshotAsked (porting (.snapshot eventJob)).arbiter = false
      ∧ (porting (.snapshot eventJob)).arbiter.unit = .free)
    ∧ snapshotAsked (unitAt .pass).arbiter = false ∧ (unitAt .pass).arbiter.unit ≠ .free :=
  ⟨⟨⟨rfl, rfl⟩, rfl, rfl, rfl⟩, rfl, by decide⟩

theorem witness_CheckpointWriteIsKept :
    ∀ job ∈ [eventJob, parkJob, finalJob],
      (porting (.checkpoint job (checkpoint 7))).attentive
        ∧ (porting (.checkpoint job (checkpoint 7))).store.port = .checkpoint job (checkpoint 7) :=
  fun _ _ => ⟨⟨rfl, rfl⟩, rfl⟩

/-- A write of each kind in progress, and the store one failure before FAULTED. -/
theorem witness_FailedWritesAreCounted :
    (porting (.checkpoint eventJob (checkpoint 7))).attentive
      ∧ (porting (.hireRecord 0 ⟨3, record 1 1⟩)).attentive
      ∧ (porting (.hireRecord 0 ⟨3, record 1 1⟩)).store.port = .hireRecord 0 ⟨3, record 1 1⟩
      ∧ (porting (.journalEntry 255 (entry 4))).attentive
      ∧ (porting (.journalEntry 255 (entry 4))).store.port = .journalEntry 255 (entry 4)
      ∧ 1 ≤ ((porting (.journalEntry 255 (entry 4))).setStore
          { (porting (.journalEntry 255 (entry 4))).store with failedJobs := 1 }).store.failedJobs :=
  ⟨⟨rfl, rfl⟩, ⟨rfl, rfl⟩, rfl, ⟨rfl, rfl⟩, rfl, by decide⟩

/-- A closing whose record is being written. -/
def closing : State :=
  (porting (.hireRecord 0 ⟨3, record 1 5⟩)).setHire
    { HireControl.reset with
      state := .closing, serial := 5, buffer := some (record 1 5), pendingMark := true
      deferred := some ⟨9, 1⟩ }

theorem witness_HireRecordWriteEndsTheClosing :
    (closing.attentive ∧ closing.store.port = .hireRecord 0 ⟨3, record 1 5⟩ ∧ closing.store.waitHire = false
      ∧ closing.hire.buffer = some (record 1 5) ∧ closing.hire.pendingMark = true
      ∧ closing.hire.deferred = some ⟨9, 1⟩ ∧ closing.hire.state = .closing)
    ∧ (porting (.hireRecord 0 ⟨3, record 1 5⟩)).hire.pendingMark = false :=
  ⟨⟨⟨rfl, rfl⟩, rfl, rfl, rfl, rfl, rfl, rfl⟩, rfl⟩

/-- The closing while a pass runs, and the same with its end waiting for the pass. -/
def closingInPass : State := closing.setArbiter { Arbiter.reset with unit := .pass }

def endingInPass : State :=
  closingInPass.setHire { closing.hire with buffer := none, pendingMark := false, ending := some .written }

theorem witness_HireRecordWriteEndsTheClosing_pass :
    (closingInPass.attentive ∧ closingInPass.store.port = .hireRecord 0 ⟨3, record 1 5⟩
      ∧ closingInPass.store.waitHire = false ∧ closingInPass.hire.buffer = some (record 1 5)
      ∧ closingInPass.hire.pendingMark = true ∧ closingInPass.hire.state = .closing
      ∧ closingInPass.hire.ending = none ∧ closingInPass.arbiter.unit = .pass)
    ∧ closing.hire.ending = none ∧ closing.arbiter.unit ≠ .pass ∧ (hired base 7).hire.state ≠ .closing :=
  ⟨⟨⟨rfl, rfl⟩, rfl, rfl, rfl, rfl, rfl, rfl, rfl⟩, rfl, by decide, by decide⟩

/-- R44, R82: the record is written during a pass; the hire state stays CLOSING, and PASS_COMPLETE ends it. -/
theorem test_closing_ends_after_the_pass :
    (match exec (.hireRecordWriteDone 0 true) closingInPass with
      | .next t => decide (t.hire = endingInPass.hire ∧ t.arbiter.unit = .pass)
      | _ => false) = true
    ∧ (match exec (.passComplete 0) endingInPass with
      | .next t => decide (t.hire = { HireControl.reset with serial := 5 })
      | _ => false) = true := by decide +kernel

theorem witness_HireControlStaysInAgreement_pass :
    (endingInPass.control.mode ≠ .starting ∧ endingInPass.arbiter.unit = .pass
      ∧ (∀ dt, Instr.hireRecordWriteDone 0 true ≠ .passComplete dt)
      ∧ ∃ t, exec (.hireRecordWriteDone 0 true) endingInPass = .next t ∧ t.arbiter.unit = .pass)
    ∧ hireAgrees endingInPass.hire ∧ endingInPass.hire.ending ≠ none := by
  refine ⟨⟨by decide, rfl, fun _ h => (by cases h), _, rfl, by decide +kernel⟩,
    ⟨by decide, by decide, fun _ h => (by cases h), by decide, by decide, by decide, by decide⟩, by decide⟩

theorem witness_UnitIsGrantedInOrder_ending :
    endingInPass.attentive ∧ endingInPass.arbiter.unit = .pass ∧ endingInPass.hire.ending = some .written
      ∧ endingInPass.hire.deferred = some ⟨9, 1⟩ ∧ endingInPass.arbiter.steps = []
      ∧ endingInPass.arbiter.tickWaiting = false ∧ endingInPass.intake.slots = [] :=
  ⟨⟨rfl, rfl⟩, rfl, rfl, rfl, rfl, rfl, rfl⟩

/-- A closing whose own record fails, with and without a pass, and one whose waiting job is discarded. -/
theorem witness_FailedWritesAreCounted_closing :
    (∀ s ∈ [closing, closingInPass], s.attentive ∧ s.store.port = .hireRecord 0 ⟨3, record 1 5⟩
        ∧ s.hire.state = .closing ∧ s.hire.ending = none ∧ s.hire.buffer = some (record 1 5)
        ∧ s.hire.pendingMark = true ∧ (record 1 5).serial = (record 1 5).serial)
      ∧ (closing.setStore { (porting (.journalEntry 255 (entry 4))).store with
          failedJobs := 1, waitHire := true }).attentive := by
  refine ⟨fun s h => ?_, rfl, rfl⟩
  rcases List.mem_pair.mp h with rfl | rfl <;> exact ⟨⟨rfl, rfl⟩, rfl, rfl, rfl, rfl, rfl, rfl⟩

theorem witness_JournalEntryLeavesStaging :
    (porting (.journalEntry 255 (entry 4))).attentive
      ∧ (porting (.journalEntry 255 (entry 4))).store.port = .journalEntry 255 (entry 4)
      ∧ ∃ j : Fin 256, j ≠ 255 ∧ (porting (.journalEntry 255 (entry 4))).store.journal[j] = none :=
  ⟨⟨rfl, rfl⟩, rfl, 0, by decide, by simp [porting, base, Store.blank]⟩

/-- A journal item read for a running stream, and a history item read. -/
def reading : State :=
  ((porting (.journalRead 0 true)).setStream { StreamEngine.reset with running := some streaming }).setStore
    { (porting (.journalRead 0 true)).store with journal := Store.blank.journal.set 0 (some (entry 4)) }

def readingHire : State :=
  ((porting (.hireRead 0 true)).setStream { StreamEngine.reset with
      running := some { streaming with kind := .hire (.retained 0 1 5 20) } }).setStore
    { (porting (.hireRead 0 true)).store with history := Store.blank.history.set 0 (some ⟨3, record 1 5⟩) }

theorem witness_ReadItemGoesToTheStream :
    (reading.attentive ∧ reading.queuesSorted ∧ reading.store.port = .journalRead 0 true
      ∧ reading.stream.running = some streaming ∧ streaming.waiting = []
      ∧ reading.store.journal[0] = some (entry 4))
    ∧ (readingHire.attentive ∧ readingHire.queuesSorted ∧ readingHire.store.port = .hireRead 0 true
      ∧ readingHire.stream.running = some { streaming with kind := .hire (.retained 0 1 5 20) }
      ∧ readingHire.store.history[0] = some ⟨3, record 1 5⟩) := by
  refine ⟨⟨⟨rfl, rfl⟩, ⟨by decide, fun _ h => (by cases h), fun _ h => (by cases h), fun _ h => (by cases h),
      fun r h => ?_⟩, rfl, rfl, rfl, by simp [reading]⟩,
    ⟨rfl, rfl⟩, ⟨by decide, fun _ h => (by cases h), fun _ h => (by cases h), fun _ h => (by cases h),
      fun r h => ?_⟩, rfl, rfl, by simp [readingHire]⟩ <;> (cases h; decide)

/-! ## Witnesses: request server -/

theorem serves_asking (row : Asked) (r : Request) (h : asked r = row) : Serves row r [] (asking r) :=
  ⟨⟨rfl, rfl⟩, base_sorted, rfl, h, rfl⟩

theorem witness_StatusIsAnswered : Serves .status (request [1, 9]) [] (asking (request [1, 9])) :=
  serves_asking _ _ (by decide)

/-- The boundaries of scope and number: 2 with 4 and 5, 0 with 46 and 47, 1 with 44, 45 and 46. -/
theorem witness_ReadCounterIsAnswered :
    (∀ l ∈ [[2, 9], [2, 9, 3, 0], [2, 9, 2, 5], [2, 9, 0, 47], [2, 9, 1, 45], [2, 9, 1, 46], [2, 9, 0, 46],
        [2, 9, 1, 44], [2, 9, 2, 4]], Serves .readCounter (request l) [] (asking (request l)))
      ∧ (asking (request [2, 9, 1, 46])).hire.state ≠ .opened
      ∧ (asking (request [2, 9, 0, 46])).arbiter.unit = .free
      ∧ (hired (asking (request [2, 9, 1, 44])) 7).hire.state = .opened := by
  refine ⟨fun l h => serves_asking _ _ ?_, by decide, rfl, rfl⟩
  revert l; decide

/-- READ SOURCE of an entry that is not valid, of a valid ACCEPT entry and of a REJECT entry; 15 and 16 are
the last index and the first beyond. -/
theorem witness_ReadSourceIsAnswered :
    (∀ l ∈ [[3, 9], [3, 9, 16], [3, 9, 15], [3, 9, 2], [3, 9, 5]],
        Serves .readSource (request l) [] (asking (request l)))
      ∧ base.profile.entries[(15 : Fin 16)].valid = false
      ∧ matching.profile.entries[(2 : Fin 16)].valid = true ∧ matching.profile.entries[(2 : Fin 16)].reject = false
      ∧ Signal.ofCode matching.profile.entries[(2 : Fin 16)].signalCode = some .engineSpeed
      ∧ matching.profile.entries[(5 : Fin 16)].valid = true
      ∧ matching.profile.entries[(5 : Fin 16)].reject = true := by
  refine ⟨fun l h => serves_asking _ _ ?_, by decide +kernel, by decide +kernel, by decide +kernel,
    by decide +kernel, by decide +kernel, by decide +kernel⟩
  revert l; decide

/-- READ JOURNAL from entry 4 on: one whose bound is 4, one above every entry, one too short, one of count 0;
with a stream running for BUSY and QUEUED, and with an entry 65,535 above the bound. -/
theorem witness_ReadJournalStartsAStream :
    (∀ l ∈ [[4, 9, 4, 0, 0, 0, 1], [4, 9, 5, 0, 0, 0, 1], [4, 9, 5, 0, 0, 0], [4, 9, 4, 0, 0, 0, 0]],
        Serves .readJournal (request l) [] (asking (request l)))
      ∧ (asking (request [])).stream.running = none ∧ (asking (request [])).link.state ≠ .busOff
      ∧ busOffPart.link.state = .busOff
      ∧ (reading.stream.running = some streaming ∧ streaming.kind.isHire = false ∧ streaming.noMore = false
          ∧ reading.stream.continuation = none)
      ∧ readingHire.stream.running.map (fun x => x.kind.isHire) = some true
      ∧ (∃ (i : Fin 256) (e : Entry), reading.store.journal[i] = some e ∧ 4 ≤ e.seq ∧ e.seq < 4 + 65536) := by
  refine ⟨fun l h => serves_asking _ _ ?_, rfl, by decide, rfl, ⟨rfl, rfl, rfl, rfl⟩, rfl,
    0, entry 4, by simp [reading], by decide, by decide⟩
  revert l; decide

/-- Records of hire 7 with equal write numbers in slots 2 and 5, and one of hire 8 written before them. -/
def historied : State :=
  base.setStore { base.store with
    history := ((Store.blank.history.set 2 (some ⟨3, record 7 5⟩)).set 5 (some ⟨3, record 7 6⟩)).set 0
      (some ⟨2, record 8 4⟩) }

theorem historied_records (j : Fin 8) (y : RetainedHire) (h : historied.store.history[j] = some y) :
    (j = 0 ∧ y = ⟨2, record 8 4⟩) ∨ (j = 2 ∧ y = ⟨3, record 7 5⟩) ∨ (j = 5 ∧ y = ⟨3, record 7 6⟩) := by
  fin_cases j <;> simp [historied, Store.blank] at h ⊢ <;> exact h.symm

/-- The rows of the lookup: the live hire, the pending record by number 0 and by its own number, the newest
history record of all, the only one of a hire, and none. -/
theorem witness_ReadHireStartsAStream :
    (∀ l ∈ [[5, 9, 0, 0, 0, 0], [5, 9, 7, 0, 0, 0], [5, 9, 7]],
        Serves .readHire (request l) [] (asking (request l)))
      ∧ LookedUp 0 (hired base 7) (some (.live ((hired base 7).liveRecord (header 7))))
      ∧ (∀ n ∈ [0, 1], LookedUp n closing (some (.unwritten 5 20)))
      ∧ (∀ n ∈ [0, 7], LookedUp n historied (some (.retained 2 7 5 20)))
      ∧ LookedUp 8 historied (some (.retained 0 8 4 20))
      ∧ LookedUp 9 historied none
      ∧ readingHire.stream.running ≠ none := by
  refine ⟨fun l h => serves_asking _ _ ?_, ⟨header 7, rfl, rfl⟩, ?_, ?_, ?_, ?_, by decide⟩
  · revert l; decide
  · intro n h
    simp only [List.mem_cons, List.not_mem_nil, or_false] at h
    rcases h with rfl | rfl <;> exact .inl ⟨record 1 5, ⟨rfl, rfl, by decide⟩, rfl⟩
  · intro n h
    simp only [List.mem_cons, List.not_mem_nil, or_false] at h
    rcases h with rfl | rfl <;>
      refine .inr ⟨fun b h => (by cases h.1), 2, ⟨3, record 7 5⟩, by decide +kernel, by decide, by decide,
        fun j y h _ => ?_⟩ <;>
      rcases historied_records j y h with ⟨rfl, rfl⟩ | ⟨rfl, rfl⟩ | ⟨rfl, rfl⟩ <;> decide
  · refine .inr ⟨fun b h => (by cases h.1), 0, ⟨2, record 8 4⟩, by decide +kernel, by decide, by decide,
      fun j y h k => ?_⟩
    rcases historied_records j y h with ⟨rfl, rfl⟩ | ⟨rfl, rfl⟩ | ⟨rfl, rfl⟩
    · decide
    · exact absurd k (by decide)
    · exact absurd k (by decide)
  · refine .inr ⟨fun b h => (by cases h.1), fun j y h => ?_⟩
    rcases historied_records j y h with ⟨rfl, rfl⟩ | ⟨rfl, rfl⟩ | ⟨rfl, rfl⟩ <;> decide

/-- SERVICE DONE of member 4, the last, of member 5, and too short. -/
theorem witness_ServiceDoneSetsTheMark :
    (∀ l ∈ [[6, 9], [6, 9, 5], [6, 9, 4]], Serves .serviceDone (request l) [] (asking (request l)))
      ∧ (asking (request [6, 9, 4])).store.state ≠ .faulted
      ∧ (asking (request [6, 9, 4])).hire.state ≠ .opened ∧ (asking (request [6, 9, 4])).arbiter.unit = .free
      ∧ (hired (asking (request [6, 9, 4])) 7).hire.state = .opened := by
  refine ⟨fun l h => serves_asking _ _ ?_, by decide, by decide, rfl, rfl⟩
  revert l; decide

theorem witness_AbortEndsTheStream :
    Serves .abortStream (request [7, 9]) [] (asking (request [7, 9]))
      ∧ (asking (request [7, 9])).stream.running = none ∧ reading.stream.running = some streaming :=
  ⟨serves_asking _ _ (by decide), rfl, rfl⟩

theorem witness_RestartAsksForACheckpoint :
    Serves .restart (request [8, 9]) [] (asking (request [8, 9]))
      ∧ (asking (request [8, 9])).store.state ≠ .faulted := ⟨serves_asking _ _ (by decide), by decide⟩

theorem witness_PlainRequestsAreServed :
    Serves .unknown (request [9, 9]) [] (asking (request [9, 9]))
      ∧ (∀ r ∈ [control [3, 9], control [3, 9, 0, 0, 0, 0]], Serves .hireUnknown r [] (asking r))
      ∧ Serves .short (request [9]) [] (asking (request [9]))
      ∧ (∀ r ∈ [(⟨.hold, 2, [1, 0]⟩ : Request), ⟨.hold, 2, [0, 0]⟩, ⟨.hold, 1, [1]⟩],
          Serves .hold r [] (asking r)) :=
  ⟨serves_asking _ _ (by decide), fun r h => serves_asking _ _ (by revert r; decide),
    serves_asking _ _ (by decide), fun r h => serves_asking _ _ (by revert r; decide)⟩

theorem witness_SummaryPagesAreBuilt :
    (∀ n ∈ List.range 8, Serves .page ⟨.page n, 0, []⟩ [] (asking ⟨.page n, 0, []⟩)
      ∧ (asking ⟨.page n, 0, []⟩).arbiter.unit = .free)
    ∧ ((base.setServer { Server.reset with pageTimer := some 9 }).attentive
      ∧ (base.setServer { Server.reset with pageTimer := some 9 }).server.pageTimer = some 9
      ∧ base.arbiter.unit = .free) :=
  ⟨fun _ _ => ⟨serves_asking _ _ rfl, rfl⟩, ⟨rfl, rfl⟩, rfl, rfl⟩

/-- CHECK OUT: too short, number 0, number 7 with no hire, with hire 7 or 8 open, and in CLOSING. -/
theorem witness_CheckOutOpensAHire :
    (∀ l ∈ [[1, 9, 7], [1, 9, 0, 0, 0, 0], [1, 9, 7, 0, 0, 0]],
        Serves .checkOut (control l) [] (asking (control l)))
      ∧ (littleAt (control [1, 9, 0, 0, 0, 0]).data 2 4 = 0 ∧ littleAt (control [1, 9, 7, 0, 0, 0]).data 2 4 = 7)
      ∧ (asking (control [1, 9, 7, 0, 0, 0])).hire.state = .noHire
      ∧ (∀ n ∈ [7, 8], (hired base n).hire.state = .opened ∧ (hired base n).hire.header = some (header n))
      ∧ closing.hire.state = .closing := by
  refine ⟨fun l h => serves_asking _ _ ?_, by decide, rfl, fun _ _ => ⟨rfl, rfl⟩, rfl⟩
  revert l; decide

/-- CHECK IN: too short, number 0, with no hire, with hire 7 or 8 open, in CLOSING, and FAULTED. -/
theorem witness_CheckInClosesTheHire :
    (∀ l ∈ [[2, 9, 7], [2, 9, 0, 0, 0, 0], [2, 9, 7, 0, 0, 0]],
        Serves .checkIn (control l) [] (asking (control l)))
      ∧ (∀ n ∈ [7, 8], (hired (asking (control [2, 9, 7, 0, 0, 0])) n).hire.header = some (header n))
      ∧ (asking (control [2, 9, 7, 0, 0, 0])).hire.state = .noHire
      ∧ (asking (control [2, 9, 7, 0, 0, 0])).store.state ≠ .faulted
      ∧ (parking .faulted).store.state = .faulted ∧ closing.hire.state = .closing := by
  refine ⟨fun l h => serves_asking _ _ ?_, fun _ _ => rfl, rfl, by decide, rfl, rfl⟩
  revert l; decide

/-! ## Witnesses: notice arbiter -/

/-- A pulse condition presented, its timer and the dwell given. -/
def presenting (dwell : Timer) : State :=
  base.setNotices { Notices.reset with
    conditions := Notices.reset.conditions.set 4 true, reverseTimer := some 9, presented := some 4
    dwell := dwell, repeatTimer := some 9 }

theorem witness_NoticeTimersMakeTheChoice :
    ((presenting none).attentive ∧ (presenting none).control.mode ≠ .starting
      ∧ pulseTimer (presenting none).notices .shaftReversal = some 9
      ∧ (presenting none).notices.conditions[pulseNumber .shaftReversal] = true
      ∧ (presenting none).notices.presented = some (pulseNumber .shaftReversal))
    ∧ ((presenting (some 9)).attentive ∧ (presenting (some 9)).notices.dwell = some 9
      ∧ (presenting (some 9)).notices.presented = some 4 ∧ (presenting (some 9)).notices.repeatTimer = some 9) :=
  ⟨⟨⟨rfl, rfl⟩, by decide, rfl, by decide +kernel, rfl⟩, ⟨rfl, rfl⟩, rfl, rfl, rfl⟩

end Sys2Proof.Tests
end

/-! PROOFS. The source matcher (R4, R5): what one entry matches, and which entries stand in the matched set. -/

namespace Sys2Proof.Machine

/-! ## Matching one entry (R4) -/

theorem formatMask_getLsbD (extended : Bool) (k : Nat) :
    (formatMask extended).getLsbD k = decide (k < if extended then 29 else 11) := by
  cases extended with
  | true =>
    have hmask : formatMask true = (BitVec.allOnes 29).setWidth 32 := by decide
    rw [hmask, BitVec.getLsbD_setWidth, BitVec.getLsbD_allOnes]
    simp; omega
  | false =>
    have hmask : formatMask false = (BitVec.allOnes 11).setWidth 32 := by decide
    rw [hmask, BitVec.getLsbD_setWidth, BitVec.getLsbD_allOnes]
    simp; omega

/-- A masked difference is zero when the two words agree wherever both masks are 1. -/
theorem xor_and_and_eq_zero_iff {w : Nat} (x y m c : BitVec w) :
    (x ^^^ y) &&& m &&& c = 0#w ↔
      ∀ k, c.getLsbD k = true → m.getLsbD k = true → x.getLsbD k = y.getLsbD k := by
  constructor
  · intro hzero k hc hm
    have hbit : ((x ^^^ y) &&& m &&& c).getLsbD k = false := by simp [hzero]
    simpa [hc, hm] using hbit
  · intro hagree
    apply BitVec.eq_of_getLsbD_eq
    intro k _
    simp only [BitVec.getLsbD_and, BitVec.getLsbD_xor, BitVec.getLsbD_zero, Bool.and_eq_false_iff,
      bne_eq_false_iff_eq]
    by_cases hc : c.getLsbD k = true
    · by_cases hm : m.getLsbD k = true
      · exact .inl (.inl (by simpa using hagree k hc hm))
      · exact .inl (.inr (by simpa using hm))
    · exact .inr (by simpa using hc)

/-- R4, at the identifier positions of the entry's format. -/
theorem entryMatches_iff (e : SourceEntry) (f : Frame) :
    entryMatches e f = true ↔
      e.valid = true ∧ f.remote = false ∧ f.extended = e.extended
        ∧ ∀ k : Nat, k < (if e.extended then 29 else 11) → e.mask.getLsbD k = true →
            f.ident.getLsbD k = e.ident.getLsbD k := by
  have hident : ((f.ident.zeroExtend 32 ^^^ e.ident) &&& e.mask &&& formatMask e.extended) = 0#32 ↔
      ∀ k : Nat, k < (if e.extended then 29 else 11) → e.mask.getLsbD k = true →
        f.ident.getLsbD k = e.ident.getLsbD k := by
    rw [xor_and_and_eq_zero_iff]
    refine forall_congr' fun k => ?_
    rw [formatMask_getLsbD, decide_eq_true_iff]
    refine imp_congr_right fun hk => ?_
    have hwide : k < 32 := by split at hk <;> omega
    simp [hwide]
  simp [entryMatches, hident, and_assoc]

/-! ## The matched set (R5) -/

/-- In a strictly sorted list, what `takeWhile` keeps is what no failing element precedes or equals. -/
theorem mem_takeWhile_iff_of_pairwise {α : Type*} [LinearOrder α] (p : α → Bool) (x : α) {l : List α}
    (hsorted : l.Pairwise (· < ·)) :
    x ∈ l.takeWhile p ↔ x ∈ l ∧ ∀ y ∈ l, y ≤ x → p y = true := by
  induction l with
  | nil => simp
  | cons a l ih =>
    obtain ⟨hleast, htail⟩ := List.pairwise_cons.mp hsorted
    have hle : x ∈ a :: l → a ≤ x := fun hx =>
      (List.mem_cons.mp hx).elim (fun h => h.ge) fun h => (hleast x h).le
    by_cases hp : p a = true
    · rw [List.takeWhile_cons_of_pos hp, List.mem_cons, ih htail]
      by_cases hxa : x = a
      · subst hxa
        simp only [true_or, List.mem_cons, true_and, true_iff]
        rintro y (rfl | hy) hyx
        · exact hp
        · exact absurd hyx (hleast y hy).not_ge
      · simp [hxa, hp]
    · rw [List.takeWhile_cons_of_neg hp]
      exact iff_of_false List.not_mem_nil fun ⟨hx, hall⟩ => hp (hall a List.mem_cons_self (hle hx))

section
variable (table : Vector SourceEntry 16) (f : Frame)

/-- The entry is a matching REJECT entry: the walk over the table ends there. -/
def rejects (i : Fin 16) : Bool := entryMatches table[i] f && table[i].reject

theorem rejects_eq_false_iff (i : Fin 16) :
    rejects table f i = false ↔ (entryMatches table[i] f = true → table[i].reject = false) := by
  simp [rejects]

/-- The walk in one expression: the matching entries among those before the first matching REJECT entry. -/
theorem acceptsUntilReject_eq_filter (l : List (Fin 16)) :
    acceptsUntilReject table f l =
      (l.takeWhile fun i => !rejects table f i).filter fun i => entryMatches table[i] f := by
  induction l with
  | nil => rfl
  | cons i l ih =>
    rw [acceptsUntilReject, ih, List.takeWhile_cons, rejects]
    cases hmatch : entryMatches table[i] f with
    | false => simp [-Fin.getElem_fin, hmatch]
    | true =>
      cases hreject : table[i].reject with
      | false => simp [-Fin.getElem_fin, hmatch]
      | true => simp

theorem matchedSet_pairwise_lt : (matchedSet table f).Pairwise (· < ·) := by
  rw [matchedSet, acceptsUntilReject_eq_filter]
  exact (List.pairwise_lt_finRange 16).sublist (List.filter_sublist.trans (List.takeWhile_sublist _))

/-- R5: the matching ACCEPT entries before which no REJECT entry matches. -/
theorem mem_matchedSet_iff (i : Fin 16) :
    i ∈ matchedSet table f ↔
      entryMatches table[i] f = true ∧ table[i].reject = false
        ∧ ∀ j : Fin 16, j < i → entryMatches table[j] f = true → table[j].reject = false := by
  have hwalk : i ∈ matchedSet table f ↔
      (∀ j : Fin 16, j ≤ i → rejects table f j = false) ∧ entryMatches table[i] f = true := by
    rw [matchedSet, acceptsUntilReject_eq_filter, List.mem_filter,
      mem_takeWhile_iff_of_pairwise _ _ (List.pairwise_lt_finRange 16)]
    simp
  rw [hwalk]
  simp only [rejects_eq_false_iff]
  constructor
  · rintro ⟨hupto, hmatch⟩
    exact ⟨hmatch, hupto i le_rfl hmatch, fun j hj => hupto j hj.le⟩
  · rintro ⟨hmatch, haccept, hbefore⟩
    refine ⟨fun j hj => ?_, hmatch⟩
    obtain hlt | rfl := hj.lt_or_eq
    · exact hbefore j hlt
    · exact fun _ => haccept

end

/-- Settles O27: R4 bit by bit, R5 by the walk over the table in index order. -/
theorem matchedSetStopsAtReject : Obligations.MatchedSetStopsAtReject :=
  ⟨entryMatches_iff, fun table f => ⟨matchedSet_pairwise_lt table f, mem_matchedSet_iff table f⟩⟩

end Sys2Proof.Machine

/-! PROOFS. The notice law (R143, R147, R149): what the notice arbiter and the mode controller do to it, and that
every operation of the part, every command and every step keeps it. -/

namespace Sys2Proof.Machine

/-! ## The part of the law that does not speak of LAMP -/

/-- R143: a presented notice's level exceeds the mask level, and the dwell runs only for a presented notice. -/
def PresentedLaw (s : State) : Prop :=
  (∀ n, s.notices.presented = some n → s.profile.maskLevel < levelOf s.profile n)
    ∧ (s.notices.presented = none → s.notices.dwell = none)

theorem NoticeLaw.presented {s : State} (h : NoticeLaw s) : PresentedLaw s := by
  obtain ⟨hlevel, hdwell, _⟩ := h
  exact ⟨hlevel, hdwell⟩

/-- A choice presents an eligible source, so one above the mask level, or nothing. -/
theorem presentedLaw_present (s : State) : PresentedLaw (present s) := by
  have hchosen := bestSource_chosen s.profile s.notices.conditions
  unfold present PresentedLaw
  simp only [State.setNotices_notices, State.setNotices_profile]
  cases hbest : bestSource s.profile s.notices.conditions with
  | none => simp
  | some n =>
    rw [hbest] at hchosen
    obtain ⟨heligible, _⟩ := hchosen
    simp only [eligible, Bool.and_eq_true, decide_eq_true_eq] at heligible
    obtain ⟨_, habove⟩ := heligible
    simpa using habove

/-- Wherever LAMP is set by its rule (R147), the whole law holds. -/
theorem PresentedLaw.updateLamp {s : State} (h : PresentedLaw s) : NoticeLaw (updateLamp s) := by
  obtain ⟨hlevel, hdwell⟩ := h
  exact ⟨hlevel, hdwell, rfl⟩

section
variable {s : State}

/-! ## What the law does not speak of -/

/-- The law reads the notice arbiter, the profile and whether the part is awake. -/
theorem NoticeLaw.congr {t : State} (h : NoticeLaw s) (hnotices : t.notices = s.notices)
    (hprofile : t.profile = s.profile) (hawake : t.awake = s.awake) : NoticeLaw t := by
  unfold NoticeLaw
  rw [hnotices, hprofile, hawake]
  exact h

/-- The outgoing queues, the array port and the running stream keep the law by themselves. -/
theorem NoticeLaw.of_kept {t : State} (h : NoticeLaw s) (k : Kept s t) : NoticeLaw t := by
  have hmode : t.control.mode = s.control.mode := by
    simpa only [Control.withoutPark] using congrArg Control.mode k.control
  exact h.congr k.notices k.profile (by unfold State.awake; rw [hmode])

/-- A change of the mode controller that leaves the part awake or not awake, as it was. -/
theorem NoticeLaw.setControl {x : Control} (h : NoticeLaw s) (ha : (s.setControl x).awake = s.awake) :
    NoticeLaw (s.setControl x) := h.congr rfl rfl ha

theorem NoticeLaw.setClock (h : NoticeLaw s) (x : Clock) : NoticeLaw (s.setClock x) := h
theorem NoticeLaw.setBoard (h : NoticeLaw s) (x : Board) : NoticeLaw (s.setBoard x) := h
theorem NoticeLaw.setIntake (h : NoticeLaw s) (x : Intake) : NoticeLaw (s.setIntake x) := h
theorem NoticeLaw.setInputs (h : NoticeLaw s) (x : Inputs) : NoticeLaw (s.setInputs x) := h
theorem NoticeLaw.setArbiter (h : NoticeLaw s) (x : Arbiter) : NoticeLaw (s.setArbiter x) := h
theorem NoticeLaw.setStart (h : NoticeLaw s) (x : StartMachine) : NoticeLaw (s.setStart x) := h
theorem NoticeLaw.setTrackers (h : NoticeLaw s) (x : Trackers) : NoticeLaw (s.setTrackers x) := h
theorem NoticeLaw.setRemainders (h : NoticeLaw s) (x : Remainders) : NoticeLaw (s.setRemainders x) := h
theorem NoticeLaw.setTable (h : NoticeLaw s) (x : Table) : NoticeLaw (s.setTable x) := h
theorem NoticeLaw.setHire (h : NoticeLaw s) (x : HireControl) : NoticeLaw (s.setHire x) := h
theorem NoticeLaw.setJournal (h : NoticeLaw s) (x : Journal) : NoticeLaw (s.setJournal x) := h
theorem NoticeLaw.setStore (h : NoticeLaw s) (x : Store) : NoticeLaw (s.setStore x) := h
theorem NoticeLaw.setLink (h : NoticeLaw s) (x : Link) : NoticeLaw (s.setLink x) := h
theorem NoticeLaw.setStream (h : NoticeLaw s) (x : StreamEngine) : NoticeLaw (s.setStream x) := h
theorem NoticeLaw.setServer (h : NoticeLaw s) (x : Server) : NoticeLaw (s.setServer x) := h
theorem NoticeLaw.setFree (h : NoticeLaw s) (x : Nat) : NoticeLaw (s.setFree x) := h
theorem NoticeLaw.setPending (h : NoticeLaw s) (x : List Instr) : NoticeLaw (s.setPending x) := h

theorem NoticeLaw.raise (h : NoticeLaw s) (c : Counter) (n : Nat) : NoticeLaw (s.raise c n) := h.setTable _

/-- Both ways of an operation that goes one of two ways keep the law. -/
theorem NoticeLaw.ite {c : Prop} [Decidable c] {t u : State} (ht : NoticeLaw t) (hu : NoticeLaw u) :
    NoticeLaw (if c then t else u) := by
  split
  · exact ht
  · exact hu

/-! ## The notice arbiter (R141 to R149) -/

theorem NoticeLaw.queueNotice (h : NoticeLaw s) : NoticeLaw (queueNotice s) := by
  have hrepeat (x : Timer) : NoticeLaw (s.setNotices { s.notices with repeatTimer := x }) := h
  exact (hrepeat _).of_kept (Kept.offerNotice _ _)

/-- The first choice establishes the law, whatever was presented before (R149). -/
theorem noticeLaw_firstChoice (s : State) : NoticeLaw (firstChoice s) :=
  (presentedLaw_present s).updateLamp.queueNotice

/-- So does any choice (R143). -/
theorem noticeLaw_choose (s : State) : NoticeLaw (choose s) := by
  have hchoice : NoticeLaw (updateLamp (present s)) := (presentedLaw_present s).updateLamp
  exact .ite hchoice (.ite hchoice.queueNotice hchoice)

/-- Which conditions are pending matters to the next choice alone. -/
theorem NoticeLaw.setConditions (h : NoticeLaw s) (x : Vector Bool 14) :
    NoticeLaw (s.setNotices { s.notices with conditions := x }) := h

theorem NoticeLaw.setCondition (h : NoticeLaw s) (n : Fin 14) : NoticeLaw (setCondition n s) := by
  have hpending := h.setConditions (s.notices.conditions.set n true)
  unfold Machine.setCondition
  refine .ite h (.ite hpending ?_)
  split
  · exact noticeLaw_choose _
  · exact .ite (noticeLaw_choose _) hpending

theorem NoticeLaw.clearCondition (h : NoticeLaw s) (n : Fin 14) : NoticeLaw (clearCondition n s) :=
  .ite (.ite (noticeLaw_choose _) (h.setConditions _)) h

theorem NoticeLaw.setPulseTimer (h : NoticeLaw s) (p : PulseSource) (x : Timer) :
    NoticeLaw (s.setNotices (setPulseTimer p x s.notices)) := by
  cases p <;> exact h

theorem NoticeLaw.setPulse (h : NoticeLaw s) (p : PulseSource) : NoticeLaw (setPulse p s) :=
  (h.setPulseTimer p _).setCondition _

theorem NoticeLaw.pulseOver (h : NoticeLaw s) (p : PulseSource) : NoticeLaw (pulseOver p s) :=
  (h.setPulseTimer p none).clearCondition _

theorem NoticeLaw.endDwell (h : NoticeLaw s) : NoticeLaw (endDwell s) := by
  have hstopped : NoticeLaw (s.setNotices { s.notices with dwell := none }) := by
    obtain ⟨hlevel, _, hlamp⟩ := h
    exact ⟨hlevel, fun _ => rfl, hlamp⟩
  unfold Machine.endDwell
  dsimp only
  split
  · exact hstopped
  · exact .ite (noticeLaw_choose _) hstopped

/-! ## The mode controller (R179 to R182, R186) -/

theorem NoticeLaw.stopPark (h : NoticeLaw s) : NoticeLaw s.stopPark := h.of_kept (Kept.stopPark _)

/-- In PARKED the notice stays presented and LAMP is off (R149, R181). -/
theorem NoticeLaw.enterParked (h : NoticeLaw s) : NoticeLaw (enterParked s) := by
  obtain ⟨hlevel, hdwell, _⟩ := h
  exact ⟨hlevel, hdwell, rfl⟩

/-- At a wake LAMP comes to follow the notice that stayed presented (R149, R182). -/
theorem NoticeLaw.wake (h : NoticeLaw s) : NoticeLaw (wake s) := by
  have hpresented : PresentedLaw (startAwake (s.setControl { s.control with mode := s.modeByIgnition })) :=
    h.presented
  exact hpresented.updateLamp.queueNotice

theorem NoticeLaw.wakeByBus (h : NoticeLaw s) : NoticeLaw (wakeByBus s) := .ite h.wake h

theorem NoticeLaw.checkpointTrigger (h : NoticeLaw s) (k : CheckpointKind) :
    NoticeLaw (checkpointTrigger k s) := h.of_kept (Kept.checkpointTrigger _ _)

theorem NoticeLaw.grantPort (h : NoticeLaw s) : NoticeLaw (grantPort s) := h.of_kept (Kept.grantPort _)

/-- RUN and ATTEND are both awake, so a change between them leaves LAMP as it is. -/
theorem NoticeLaw.ignitionChange (h : NoticeLaw s) (on : Bool) (t : Nat) :
    NoticeLaw (ignitionChange on t s) := by
  unfold Machine.ignitionChange
  split
  · next hrun => exact (h.setControl (by simp [State.awake, hrun])).checkpointTrigger _
  · next hattend => exact h.setControl (by simp [State.awake, hattend])
  · exact h.wake
  · exact h

theorem NoticeLaw.setRestart (h : NoticeLaw s) (w : Option RestartWait) :
    NoticeLaw (s.setControl { s.control with restart := w }) := h.setControl rfl

theorem NoticeLaw.busActivity (h : NoticeLaw s) : NoticeLaw (busActivity s) := h.setControl rfl

theorem NoticeLaw.reportOutcome (h : NoticeLaw s) (p r : Bool) : NoticeLaw (reportOutcome p r s) := by
  have houtcome : NoticeLaw (if r then
      s.setControl { s.control with restart := s.control.restart.map fun w => { w with outcome := true } }
      else s) := .ite (h.setRestart _) h
  exact .ite houtcome.enterParked houtcome

theorem NoticeLaw.parkDue (h : NoticeLaw s) : NoticeLaw (parkDue s) := by
  have hpending : NoticeLaw (s.setControl { s.control with parkTimer := none, parkPending := true }) :=
    h.setControl rfl
  exact .ite (hpending.reportOutcome _ _) (hpending.of_kept (Kept.parkTrigger _))

/-- A reset presents nothing, in STARTING and with LAMP off. -/
theorem noticeLaw_resetWorking (r : ResetReason) (s : State) : NoticeLaw (resetWorking r s) :=
  ⟨fun _ h => (nomatch h), fun _ => rfl, rfl⟩

theorem noticeLaw_holdInReset (s : State) : NoticeLaw (holdInReset s) :=
  (noticeLaw_resetWorking .power s).setControl rfl

theorem NoticeLaw.restartCheck (h : NoticeLaw s) : NoticeLaw (restartCheck s) := by
  unfold Machine.restartCheck
  split
  · exact .ite (noticeLaw_resetWorking _ _) h
  · exact h

/-! ## Events and expiries -/

theorem NoticeLaw.settle (h : NoticeLaw s) : NoticeLaw (settle s) :=
  ((((h.restartCheck.of_kept (Kept.drainHeld _)).of_kept (Kept.settleStreams 2 _)).of_kept
    (Kept.takeFrame _)).of_kept (Kept.parkUpdate _)).setFree _

/-- An event keeps the law where its own effect does. -/
theorem NoticeLaw.event {t : State} {dt : Nat} {f : State → State} (h : NoticeLaw s)
    (he : event dt f s = .next t) (hf : ∀ u, NoticeLaw u → NoticeLaw (f u)) : NoticeLaw t := by
  obtain ⟨_, rfl⟩ | ⟨_, rfl⟩ := event_cases he
  · exact (hf _ (h.setClock _)).settle
  · exact h.setClock _

/-- An expiry keeps the law where its own effect does. -/
theorem NoticeLaw.expiry {t : State} {x : Timer} {f : State → State} (h : NoticeLaw s)
    (he : expiry x f s = .next t) (hf : ∀ u, NoticeLaw u → NoticeLaw (f u)) : NoticeLaw t := by
  obtain ⟨d, _, _, rfl⟩ | rfl := expiry_cases he
  · exact (hf _ (h.setClock _)).settle
  · exact h

/-! ## Journal entries and hire control -/

theorem NoticeLaw.createEntry (h : NoticeLaw s) (k : EntryKind) (m : Option Nat) (a b : Nat) :
    NoticeLaw (createEntry k m a b s) :=
  (h.setJournal _).of_kept (Kept.createEntry k m a b s)

theorem NoticeLaw.flagStoreFault (h : NoticeLaw s) : NoticeLaw s.flagStoreFault := by
  unfold State.flagStoreFault
  split
  · exact .ite (h.setHire _) h
  · exact h

theorem NoticeLaw.finishClosing (h : NoticeLaw s) (e : ClosingEnd) : NoticeLaw (finishClosing e s) :=
  (h.setHire _).of_kept (Kept.finishClosing e s)

theorem NoticeLaw.endClosing (h : NoticeLaw s) (e : ClosingEnd) : NoticeLaw (endClosing e s) :=
  .ite (h.setHire _) (h.finishClosing e)

theorem NoticeLaw.takeEnding (h : NoticeLaw s) : NoticeLaw (takeEnding s) := by
  unfold Machine.takeEnding
  split
  · exact h.finishClosing _
  · exact h

theorem NoticeLaw.failClosing (h : NoticeLaw s) : NoticeLaw (failClosing s) :=
  .ite ((h.setHire _).endClosing _) h

theorem NoticeLaw.hireRecordTrigger (h : NoticeLaw s) : NoticeLaw (hireRecordTrigger s) :=
  .ite h.failClosing (h.setStore _).stopPark.grantPort

theorem NoticeLaw.openHire (h : NoticeLaw s) (n : Nat) : NoticeLaw (openHire n s) := by
  have hopened := fun t x a => ((h.setTable t).setHire x).createEntry .hireOpened none a 0
  exact (NoticeLaw.ite (hopened _ _ _).hireRecordTrigger (hopened _ _ _)).checkpointTrigger _

theorem NoticeLaw.closeHire (h : NoticeLaw s) (token n : Nat) : NoticeLaw (closeHire token n s) := by
  unfold Machine.closeHire
  split
  · exact h
  · have hstaged := fun a b => (h.setJournal _).of_kept (Kept.stageEntry .hireClosed none a b s)
    exact (((hstaged _ _).setHire _).setTable _).hireRecordTrigger

theorem NoticeLaw.recordWritten (h : NoticeLaw s) (r : HireRecord) : NoticeLaw (recordWritten r s) := by
  have hemptied := h.setHire (emptyBuffer s.hire)
  exact .ite ((NoticeLaw.ite (hemptied.endClosing _) hemptied).checkpointTrigger _)
    (.ite h (h.checkpointTrigger _))

theorem NoticeLaw.recordFailed (h : NoticeLaw s) (r : HireRecord) : NoticeLaw (recordFailed r s) := by
  have hflagged := h.setHire (flagBuffer s.hire)
  exact .ite (.ite (hflagged.endClosing _) hflagged.flagStoreFault) h.flagStoreFault

/-! ## The tally engine: its events (R55 to R59, R69 to R72, R38, R45) -/

theorem NoticeLaw.closeAttempt (h : NoticeLaw s) (o : Outcome) : NoticeLaw (closeAttempt o s) := by
  have hclosed := h.setTable (tableClose s.hireOpen o.counter.number s.start.cold s.table)
  have hunits := hclosed.raise .starterUnits 20
  exact .ite (.ite (hunits.raise _ _) hunits) hclosed

theorem NoticeLaw.beginAttempt (h : NoticeLaw s) (t : Nat) : NoticeLaw (beginAttempt t s) := h.setStart _

theorem NoticeLaw.crankBegin (h : NoticeLaw s) (t : Nat) : NoticeLaw (crankBegin t s) := by
  unfold Machine.crankBegin
  split
  · exact h.beginAttempt t
  · exact (h.closeAttempt _).beginAttempt t
  · exact ((h.raise _ _).createEntry _ _ _ _).setStart _
  · exact h

theorem NoticeLaw.creditCrank (h : NoticeLaw s) (t : Nat) : NoticeLaw (creditCrank t s) :=
  ((h.setStart _).raise _ _).raise _ _

theorem NoticeLaw.crankEnd (h : NoticeLaw s) (t : Nat) : NoticeLaw (crankEnd t s) := by
  unfold Machine.crankEnd
  split
  · exact ((h.creditCrank t).setStart _).clearCondition _
  · exact .ite ((h.creditCrank t).setStart _) h
  · exact h
  · exact h

theorem NoticeLaw.longCrank (h : NoticeLaw s) (t : Nat) : NoticeLaw (longCrank t s) :=
  .ite (((h.raise _ _).createEntry _ _ _ _).setCondition _) h

theorem NoticeLaw.clutchChange (h : NoticeLaw s) (v : Option Int) : NoticeLaw (clutchChange v s) := by
  have hengaged := h.raise .engagements 1
  unfold Machine.clutchChange
  split
  · exact h
  · exact .ite (h.setTrackers _)
      (.ite ((NoticeLaw.ite (hengaged.raise .launches 1) hengaged).setTrackers _) h)

theorem NoticeLaw.gearChange (h : NoticeLaw s) (p g : Option Int) : NoticeLaw (gearChange p g s) := by
  unfold Machine.gearChange
  split
  · have hshift := h.raise .shifts 1
    dsimp only
    split
    · exact ((hshift.raise _ _).createEntry _ _ _ _).setPulse _
    · exact hshift
  · exact h

theorem NoticeLaw.takeEvent (h : NoticeLaw s) (e : TallyEvent) : NoticeLaw (takeEvent e s) := by
  cases e with
  | crankBegin t => exact h.crankBegin t
  | crankEnd t => exact h.crankEnd t
  | gear _ p g => exact h.gearChange p g
  | clutch _ v => exact h.clutchChange v
  | longCrank t => exact h.longCrank t
  | shaftReversal r => exact ((h.raise _ _).createEntry _ _ _ _).setPulse _
  | shock p q => exact ((h.raise _ _).createEntry _ _ _ _).setPulse _

theorem NoticeLaw.deliver (h : NoticeLaw s) (e : TallyEvent) : NoticeLaw (deliver e s) :=
  .ite (h.setArbiter _) (h.takeEvent e)

theorem NoticeLaw.takeHeld (h : NoticeLaw s) (l : List HeldEvent) : NoticeLaw (takeHeld l s) :=
  List.foldlRecOn l _ h fun _ hu e _ => hu.takeEvent e.event

/-! ## The tally engine: the twelve stages of a pass (R47) -/

theorem NoticeLaw.windowPass (h : NoticeLaw s) (x : Sample) : NoticeLaw (windowPass x s) := by
  have hwindow := fun y => h.setStart y
  exact .ite (((hwindow _).closeAttempt _).setStart _)
    (.ite (.ite (((hwindow _).closeAttempt _).setStart _) (((hwindow _).closeAttempt _).setStart _))
      (hwindow _))

theorem NoticeLaw.engineStopped (h : NoticeLaw s) : NoticeLaw (engineStopped s) := by
  have hstopped := fun y => (h.raise .engineStops 1).setStart y
  exact .ite (((hstopped _).crankEnd _).beginAttempt _) ((hstopped _).setStart _)

theorem NoticeLaw.runningPass (h : NoticeLaw s) (x : Sample) : NoticeLaw (runningPass x s) := by
  have hcounted := fun y z => (h.setStart y).setStart z
  exact .ite (.ite (hcounted _ _).engineStopped (hcounted _ _)) (hcounted _ _)

theorem NoticeLaw.stageStart (h : NoticeLaw s) (x : Sample) : NoticeLaw (stageStart x s) := by
  unfold Machine.stageStart
  split
  · exact h.windowPass x
  · exact h.runningPass x
  · exact .ite ((h.raise _ _).setStart _) h
  · exact h

theorem NoticeLaw.stageRunTime (h : NoticeLaw s) (x : Sample) : NoticeLaw (stageRunTime x s) := by
  have hcounted := fun g => (h.raise .runTime 1).raise (.gearTime g) 1
  exact .ite (.ite (hcounted _) ((hcounted _).raise _ _)) h

theorem NoticeLaw.stageIdle (h : NoticeLaw s) (x : Sample) : NoticeLaw (stageIdle x s) :=
  .ite (h.raise _ _) h

theorem NoticeLaw.stageEquivalent (h : NoticeLaw s) (x : Sample) : NoticeLaw (stageEquivalent x s) :=
  .ite (((NoticeLaw.ite (h.raise .unverifiedTime 1) h).setRemainders _).raise _ _) h

theorem NoticeLaw.endOverspeed (h : NoticeLaw s) : NoticeLaw (endOverspeed s) :=
  ((h.createEntry _ _ _ _).clearCondition _).setTrackers _

theorem NoticeLaw.stageOverspeed (h : NoticeLaw s) (x : Sample) : NoticeLaw (stageOverspeed x s) :=
  .ite (.ite h.endOverspeed ((h.raise _ _).setTrackers _))
    (.ite ((((h.raise _ _).raise _ _).setTrackers _).setCondition _) h)

theorem NoticeLaw.stageClutchWork (h : NoticeLaw s) (x : Sample) : NoticeLaw (stageClutchWork x s) := by
  unfold Machine.stageClutchWork
  split
  · exact (h.setRemainders _).raise _ _
  · exact h

theorem NoticeLaw.endHot (h : NoticeLaw s) : NoticeLaw (endHot s) :=
  ((h.createEntry _ _ _ _).clearCondition _).setTrackers _

theorem NoticeLaw.hotActive (h : NoticeLaw s) (kw : Nat) : NoticeLaw (hotActive kw s) :=
  .ite h.endHot (.ite ((h.raise _ _).setTrackers _) (.ite h.endHot ((h.raise _ _).setTrackers _)))

theorem NoticeLaw.hotNone (h : NoticeLaw s) (kw : Nat) : NoticeLaw (hotNone kw s) :=
  .ite (.ite ((((h.raise _ _).raise _ _).setTrackers _).setCondition _) (h.setTrackers _))
    (h.setTrackers _)

theorem NoticeLaw.stageClutchHot (h : NoticeLaw s) (x : Sample) : NoticeLaw (stageClutchHot x s) :=
  .ite (h.hotActive _) (h.hotNone _)

theorem NoticeLaw.stageDistance (h : NoticeLaw s) (x : Sample) : NoticeLaw (stageDistance x s) := by
  unfold Machine.stageDistance
  split
  · exact (h.setRemainders _).raise _ _
  · exact h

theorem NoticeLaw.stageMoving (h : NoticeLaw s) (x : Sample) : NoticeLaw (stageMoving x s) :=
  .ite (h.raise _ _) h

theorem NoticeLaw.stageUnhiredMove (h : NoticeLaw s) (x : Sample) : NoticeLaw (stageUnhiredMove x s) :=
  .ite ((h.createEntry _ _ _ _).setTrackers _) (h.setTrackers _)

theorem NoticeLaw.stageRevolutions (h : NoticeLaw s) (x : Sample) : NoticeLaw (stageRevolutions x s) :=
  .ite h (((h.setRemainders _).raise _ _).raise _ _)

theorem NoticeLaw.stageDisagreement (h : NoticeLaw s) (x : Sample) : NoticeLaw (stageDisagreement x s) :=
  .ite (.ite ((h.createEntry _ _ _ _).setTrackers _) (h.setTrackers _)) (h.setTrackers _)

theorem NoticeLaw.setDue (h : NoticeLaw s) (m : Fin 5) (b : Bool) : NoticeLaw (setDue m b s) := h.setTable _

theorem NoticeLaw.checkMember (h : NoticeLaw s) (m : Fin 5) : NoticeLaw (checkMember m s) := by
  unfold Machine.checkMember
  dsimp only
  split
  · exact ((h.setDue m true).createEntry _ _ _ _).setCondition _
  · exact (h.setDue m false).clearCondition _
  · exact h

theorem NoticeLaw.stageWear (h : NoticeLaw s) : NoticeLaw (stageWear s) :=
  List.foldlRecOn _ _ h fun _ hu m _ => hu.checkMember m

theorem NoticeLaw.stagePeriodic (h : NoticeLaw s) (x : Sample) : NoticeLaw (stagePeriodic x s) :=
  .ite (.ite ((h.setTrackers _).checkpointTrigger _) (h.setTrackers _)) h

theorem NoticeLaw.passStages (h : NoticeLaw s) (x : Sample) : NoticeLaw (passStages x s) := by
  have hengine := ((((h.stageStart x).stageRunTime x).stageIdle x).stageEquivalent x).stageOverspeed x
  have hclutch := (hengine.stageClutchWork x).stageClutchHot x
  have hdistance := ((hclutch.stageDistance x).stageMoving x).stageUnhiredMove x
  exact (((hdistance.stageRevolutions x).stageDisagreement x).stageWear).stagePeriodic x

theorem NoticeLaw.tallyPass (h : NoticeLaw s) : NoticeLaw (tallyPass s) := (h.setInputs _).passStages _

/-! ## The signal board and the decode (R9, R15 to R23) -/

theorem NoticeLaw.handCrank (h : NoticeLaw s) (t : Nat) : NoticeLaw (handCrank t s) :=
  .ite h ((h.setBoard _).deliver _)

theorem NoticeLaw.handIgnition (h : NoticeLaw s) (t : Nat) : NoticeLaw (handIgnition t s) :=
  .ite h ((h.setBoard _).ignitionChange _ _)

theorem NoticeLaw.handGear (h : NoticeLaw s) (t : Nat) : NoticeLaw (handGear t s) :=
  .ite h ((h.setBoard _).deliver _)

theorem NoticeLaw.handClutch (h : NoticeLaw s) (t : Nat) : NoticeLaw (handClutch t s) :=
  .ite h ((h.setBoard _).deliver _)

theorem NoticeLaw.hand (h : NoticeLaw s) (sig : Signal) (t : Nat) : NoticeLaw (hand sig t s) := by
  cases sig with
  | crank => exact h.handCrank t
  | ignition => exact h.handIgnition t
  | gear => exact h.handGear t
  | clutchEngagement => exact h.handClutch t
  | engineSpeed | engineTorque | coolant | inputShaftSpeed | vehicleSpeed | gridSelect | calendar => exact h

theorem NoticeLaw.slotEnteredLost (h : NoticeLaw s) (sig : Signal) : NoticeLaw (slotEnteredLost sig s) :=
  .ite ((h.createEntry _ _ _ _).setCondition _) h

theorem NoticeLaw.slotLeftLost (h : NoticeLaw s) : NoticeLaw (slotLeftLost s) :=
  .ite h (h.clearCondition _)

theorem NoticeLaw.changeSlot (h : NoticeLaw s) (sig : Signal) (t : Nat) (sl : Slot) :
    NoticeLaw (changeSlot sig t sl s) := by
  have hput : NoticeLaw (putSlot sig sl s) := h.setBoard _
  have hentered := NoticeLaw.ite (c := (s.slot sig).state ≠ .lost ∧ sl.state = .lost)
    (hput.slotEnteredLost sig) hput
  exact (NoticeLaw.ite hentered.slotLeftLost hentered).hand sig t

theorem NoticeLaw.takeCalendar (h : NoticeLaw s) (v : Value) : NoticeLaw (takeCalendar v s) := by
  cases v with
  | num n => exact h.setControl rfl
  | unknown => exact h

theorem NoticeLaw.busReport (h : NoticeLaw s) (sig : Signal) (r : Rank) (v : Value) (t limit : Nat) :
    NoticeLaw (busReport sig r v t limit s) :=
  .ite ((NoticeLaw.ite (h.takeCalendar v) h).changeSlot _ _ _) h

theorem NoticeLaw.expireOrigin (h : NoticeLaw s) (sig : Signal) (r : Rank) :
    NoticeLaw (expireOrigin sig r s) := h.changeSlot _ _ _

theorem NoticeLaw.holdOver (h : NoticeLaw s) (sig : Signal) : NoticeLaw (holdOver sig s) :=
  h.changeSlot _ _ _

theorem NoticeLaw.notAvailableReport (h : NoticeLaw s) (sig : Signal) (r : Rank) :
    NoticeLaw (notAvailableReport sig r s) := .ite (h.expireOrigin sig r) h

theorem NoticeLaw.inputReport (h : NoticeLaw s) (sig : Signal) (k : OriginKind) (v : Int) (t : Nat) :
    NoticeLaw (inputReport sig k v t s) := h.changeSlot _ _ _

theorem NoticeLaw.decodeEntry (h : NoticeLaw s) (x : IntakeSlot) (i : Fin 16) :
    NoticeLaw (decodeEntry x i s) := by
  unfold Machine.decodeEntry
  dsimp only
  split
  · exact h
  · split
    · exact h.setIntake _
    · exact (h.setIntake _).notAvailableReport _ _
    · exact (h.setIntake _).busReport _ _ _ _ _

theorem NoticeLaw.decodeEntries (h : NoticeLaw s) (x : IntakeSlot) : NoticeLaw (decodeEntries x s) :=
  List.foldlRecOn _ _ h fun _ hu i _ => hu.decodeEntry x i

/-! ## The request server (R92, R96, R98, R163 to R178, R186) -/

theorem NoticeLaw.endRequest (h : NoticeLaw s) (fs : List OutFrame) : NoticeLaw (endRequest fs s) :=
  ((h.setServer _).setServer _).of_kept (Kept.placeAnswers fs _)

theorem NoticeLaw.answer (h : NoticeLaw s) (fs : List OutFrame) : NoticeLaw (answer fs s) :=
  .ite (h.setServer _) (h.endRequest fs)

theorem NoticeLaw.doReadCounter (h : NoticeLaw s) (r : Request) : NoticeLaw (doReadCounter r s) := by
  unfold Machine.doReadCounter
  split
  · exact h.answer _
  · exact h.answer _

theorem NoticeLaw.doReadSource (h : NoticeLaw s) (r : Request) : NoticeLaw (doReadSource r s) := by
  unfold Machine.doReadSource
  split
  · exact .ite (h.answer _) (h.answer _)
  · exact h.answer _

theorem NoticeLaw.serviceMember (h : NoticeLaw s) (m : Fin 5) : NoticeLaw (serviceMember m s) :=
  (((h.setTable _).clearCondition _).createEntry _ _ _ _).checkpointTrigger _

theorem NoticeLaw.doServiceDone (h : NoticeLaw s) (r : Request) : NoticeLaw (doServiceDone r s) := by
  unfold Machine.doServiceDone
  split
  · exact h.answer _
  · split
    · exact (h.serviceMember _).answer _
    · exact h.answer _

theorem NoticeLaw.doHold (h : NoticeLaw s) (r : Request) : NoticeLaw (doHold r s) :=
  .ite (h.answer _) (.ite ((h.answer _).setServer _) ((h.answer _).setServer _))

theorem NoticeLaw.doPage (h : NoticeLaw s) (r : Request) : NoticeLaw (doPage r s) := by
  unfold Machine.doPage
  split
  · exact h.answer _
  · exact h.answer _

theorem NoticeLaw.doCheckOut (h : NoticeLaw s) (r : Request) : NoticeLaw (doCheckOut r s) := by
  unfold Machine.doCheckOut
  split
  · exact h.answer _
  · exact (h.openHire _).answer _

theorem NoticeLaw.doCheckIn (h : NoticeLaw s) (r : Request) : NoticeLaw (doCheckIn r s) := by
  unfold Machine.doCheckIn
  split
  · exact h.answer _
  · exact (h.answer _).closeHire _ _

theorem NoticeLaw.doReadJournal (h : NoticeLaw s) (r : Request) : NoticeLaw (doReadJournal r s) := by
  unfold Machine.doReadJournal
  refine .ite (h.answer _) ?_
  split
  · exact .ite (h.answer _)
      (.ite ((h.answer _).of_kept (Kept.startJournalStream _ _ _ _)) (h.answer _))
  · exact .ite (h.answer _) ((h.setStream _).answer _)

theorem NoticeLaw.doReadHire (h : NoticeLaw s) (r : Request) : NoticeLaw (doReadHire r s) := by
  unfold Machine.doReadHire
  refine .ite (h.answer _) ?_
  split
  · exact h.answer _
  · refine .ite (h.answer _) ?_
    split
    · exact h.answer _
    · exact (h.answer _).of_kept (Kept.startHireStream _ _ _)

theorem NoticeLaw.withdrawStream (h : NoticeLaw s) : NoticeLaw (withdrawStream s) :=
  ((h.setLink _).setStore _).setStream _

theorem NoticeLaw.doAbort (h : NoticeLaw s) (r : Request) : NoticeLaw (doAbort r s) := by
  unfold Machine.doAbort
  split
  · exact h.answer _
  · exact h.withdrawStream.answer _

theorem NoticeLaw.doRestart (h : NoticeLaw s) (r : Request) : NoticeLaw (doRestart r s) :=
  ((h.answer _).setRestart _).of_kept (Kept.restartTrigger _)

theorem NoticeLaw.executeRequest (h : NoticeLaw s) (r : Request) : NoticeLaw (executeRequest r s) := by
  unfold Machine.executeRequest
  cases asked r with
  | status | unknown | hireUnknown | short => exact h.answer _
  | readCounter => exact h.doReadCounter r
  | readSource => exact h.doReadSource r
  | readJournal => exact h.doReadJournal r
  | readHire => exact h.doReadHire r
  | serviceDone => exact h.doServiceDone r
  | abortStream => exact h.doAbort r
  | restart => exact h.doRestart r
  | checkOut => exact h.doCheckOut r
  | checkIn => exact h.doCheckIn r
  | hold => exact h.doHold r
  | page => exact h.doPage r

/-! ## The arithmetic unit (R43 to R45) -/

theorem NoticeLaw.executeHead (h : NoticeLaw s) : NoticeLaw (executeHead s) := by
  unfold Machine.executeHead
  split
  · exact h.executeRequest _
  · exact h

theorem NoticeLaw.takeSnapshot (h : NoticeLaw s) : NoticeLaw (takeSnapshot s) := by
  unfold Machine.takeSnapshot
  split
  · exact h.setStore _
  · exact h

theorem NoticeLaw.grantStep (h : NoticeLaw s) (w : WholeStep) : NoticeLaw (grantStep w s) := by
  have hunit : NoticeLaw (s.setUnit (.step w)) := h.setArbiter _
  cases w with
  | request => exact hunit.executeHead
  | page => exact (hunit.setServer _).of_kept (Kept.offerSummary _ _)
  | snapshot => exact hunit.takeSnapshot

theorem NoticeLaw.grantPass (h : NoticeLaw s) : NoticeLaw (grantPass s) := (h.setArbiter _).tallyPass

theorem NoticeLaw.grantDecode (h : NoticeLaw s) (x : IntakeSlot) : NoticeLaw (grantDecode x s) :=
  (h.setArbiter _).decodeEntries x

theorem NoticeLaw.grantUnit (h : NoticeLaw s) : NoticeLaw (grantUnit s) := by
  unfold Machine.grantUnit
  split
  · exact (h.setArbiter _).grantStep _
  · refine .ite (h.setArbiter _).grantPass ?_
    split
    · exact h.grantDecode _
    · exact h.setArbiter _

theorem NoticeLaw.dueStep (h : NoticeLaw s) (w : WholeStep) : NoticeLaw (dueStep w s) :=
  .ite (h.grantStep w) (h.setArbiter _)

theorem NoticeLaw.dueTick (h : NoticeLaw s) : NoticeLaw (dueTick s) := .ite h.grantPass (h.setArbiter _)

theorem NoticeLaw.dueDecode (h : NoticeLaw s) : NoticeLaw (dueDecode s) := by
  unfold Machine.dueDecode
  refine .ite ?_ h
  split
  · exact h.grantDecode _
  · exact h

theorem NoticeLaw.passOver (h : NoticeLaw s) : NoticeLaw (passOver s) :=
  .ite ((h.setArbiter _).takeHeld _).takeEnding.grantUnit h

theorem NoticeLaw.stepOver (h : NoticeLaw s) : NoticeLaw (stepOver s) := by
  unfold Machine.stepOver
  split
  · exact (h.endRequest _).grantUnit
  · exact h.grantUnit
  · exact h.grantUnit
  · exact h
  · exact h
  · exact h

theorem NoticeLaw.completeDecode (h : NoticeLaw s) : NoticeLaw (completeDecode s) :=
  .ite (h.setIntake _).grantUnit h

theorem NoticeLaw.tickOver (h : NoticeLaw s) : NoticeLaw (tickOver s) := (h.setArbiter _).dueTick

theorem NoticeLaw.longCrankOver (h : NoticeLaw s) : NoticeLaw (longCrankOver s) := (h.setStart _).deliver _

theorem NoticeLaw.serveRow (h : NoticeLaw s) (row : Asked) : NoticeLaw (serveRow row s) := by
  unfold Machine.serveRow
  split
  · exact h
  · exact .ite (.ite (h.dueStep _) (h.executeRequest _)) h

theorem NoticeLaw.pageTimerOver (h : NoticeLaw s) : NoticeLaw (pageTimerOver s) := (h.setServer _).dueStep _

/-! ## The link unit (R151 to R157, R161, R174) -/

theorem NoticeLaw.joinBus (h : NoticeLaw s) : NoticeLaw (joinBus s) := .ite (h.setLink _) h

theorem NoticeLaw.examine (h : NoticeLaw s) (f : Frame) : NoticeLaw (examine f s) := .ite h (h.setIntake _)

theorem NoticeLaw.sortFrame (h : NoticeLaw s) (f : Frame) : NoticeLaw (sortFrame f s) := by
  unfold Machine.sortFrame
  refine .ite ?_ (h.examine f).dueDecode
  split
  · exact .ite (h.setServer _) h
  · exact h

theorem NoticeLaw.receiveFrame (h : NoticeLaw s) (f : Frame) : NoticeLaw (receiveFrame f s) :=
  .ite ((h.setLink _).busActivity.sortFrame f) h

theorem NoticeLaw.receiveError (h : NoticeLaw s) (b : Bool) : NoticeLaw (receiveError b s) :=
  .ite (h.setLink _) h

theorem NoticeLaw.answerOver (h : NoticeLaw s) : NoticeLaw (answerOver s) := h.setRestart _

theorem NoticeLaw.frameSent (h : NoticeLaw s) (k : FrameKind) : NoticeLaw (frameSent k s) := by
  cases k with
  | stream _ _ => exact (h.setLink _).setStream _
  | restartAnswer => exact h.answerOver
  | answer | notice | summary => exact h

theorem NoticeLaw.attemptOver (h : NoticeLaw s) : NoticeLaw (attemptOver s) := .ite (h.setLink _) h

theorem NoticeLaw.sendSucceeds (h : NoticeLaw s) : NoticeLaw (sendSucceeds s) := by
  unfold Machine.sendSucceeds
  split
  · exact .ite ((h.setLink _).frameSent _).attemptOver h
  · exact h

theorem NoticeLaw.arbitrationLost (h : NoticeLaw s) : NoticeLaw (arbitrationLost s) := by
  unfold Machine.arbitrationLost
  split
  · exact .ite (h.setLink _).attemptOver h
  · exact h

theorem NoticeLaw.loseStream (h : NoticeLaw s) : NoticeLaw (loseStream s) := by
  unfold Machine.loseStream
  split
  · exact h
  · exact h.withdrawStream.setStream _

theorem NoticeLaw.transmitError (h : NoticeLaw s) (b : Bool) : NoticeLaw (transmitError b s) := by
  unfold Machine.transmitError
  split
  · exact h
  · exact .ite (NoticeLaw.ite (h.setLink _).loseStream (h.setLink _)).attemptOver h

theorem NoticeLaw.countRun (h : NoticeLaw s) : NoticeLaw (countRun s) := .ite (h.setLink _) h

theorem NoticeLaw.payLostMark (h : NoticeLaw s) : NoticeLaw (payLostMark s) := by
  unfold Machine.payLostMark
  split
  · exact h
  · exact (h.setStream _).of_kept (Kept.oweAnswer _ _)

theorem NoticeLaw.recoverLink (h : NoticeLaw s) : NoticeLaw (recoverLink s) :=
  .ite (h.setLink _).payLostMark h

/-! ## The retained store (R101, R102, R115, R117, R129 to R133, R175) -/

theorem NoticeLaw.enterFaulted (h : NoticeLaw s) : NoticeLaw (enterFaulted s) :=
  (NoticeLaw.ite (h.setStore _).failClosing (h.setStore _)).flagStoreFault.setCondition _

theorem NoticeLaw.jobFailed (h : NoticeLaw s) (kind : Nat) {report : State → State}
    (hreport : ∀ u, NoticeLaw u → NoticeLaw (report u)) : NoticeLaw (jobFailed kind report s) := by
  have hreported := fun x a b => hreport _ ((h.setStore x).createEntry .storeFault none a b)
  exact .ite (hreported _ _ _).enterFaulted (hreported _ _ _)

theorem NoticeLaw.releasePort (h : NoticeLaw s) : NoticeLaw (releasePort s) := (h.setStore _).grantPort

theorem NoticeLaw.endFinal (h : NoticeLaw s) : NoticeLaw (endFinal s) :=
  .ite (((h.setStore _).setStore _).checkpointTrigger _) (h.setStore _)

theorem NoticeLaw.endCheckpoint (h : NoticeLaw s) (j : PortJob) (c : Checkpoint) (b : Bool) :
    NoticeLaw (endCheckpoint j c b s) := by
  have hwritten := fun x y k => NoticeLaw.ite (c := b = true) ((h.setStore x).setStore y)
    ((h.setStore x).jobFailed k fun _ hu => hu.flagStoreFault)
  exact (NoticeLaw.ite (hwritten _ _ _).endFinal (hwritten _ _ _)).releasePort.reportOutcome _ _

theorem NoticeLaw.endHireRecord (h : NoticeLaw s) (i : Fin 8) (x : RetainedHire) (b : Bool) :
    NoticeLaw (endHireRecord i x b s) :=
  (NoticeLaw.ite (((h.setStore _).setStore _).recordWritten _)
    ((h.setStore _).jobFailed _ fun _ hu => hu.recordFailed _)).releasePort.reportOutcome _ _

theorem NoticeLaw.entryWritten (h : NoticeLaw s) (i : Fin 256) (e : Entry) :
    NoticeLaw (entryWritten i e s) := by
  have hunstaged := fun x => (h.setStore x).of_kept (Kept.unstage e.seq _)
  unfold Machine.entryWritten
  dsimp only
  split
  · exact .ite ((hunstaged _).of_kept (Kept.endJournalJob _ _)) ((hunstaged _).setStore _)
  · exact hunstaged _

theorem NoticeLaw.endJournalEntry (h : NoticeLaw s) (i : Fin 256) (e : Entry) (b : Bool) :
    NoticeLaw (endJournalEntry i e b s) :=
  (NoticeLaw.ite (h.entryWritten i e) (((h.setStore _).jobFailed 3 fun _ hu => hu.flagStoreFault).of_kept
    (Kept.queueJournal _))).releasePort.reportOutcome _ _

theorem NoticeLaw.snapshotDue (h : NoticeLaw s) : NoticeLaw (snapshotDue s) := by
  unfold Machine.snapshotDue
  split
  · exact .ite h (h.dueStep _)
  · exact h

theorem NoticeLaw.checkpointOver (h : NoticeLaw s) (b : Bool) : NoticeLaw (checkpointOver b s) := by
  unfold Machine.checkpointOver
  split
  · exact h.endCheckpoint _ _ _
  · exact h

theorem NoticeLaw.hireRecordOver (h : NoticeLaw s) (b : Bool) : NoticeLaw (hireRecordOver b s) := by
  unfold Machine.hireRecordOver
  split
  · exact h.endHireRecord _ _ _
  · exact h

theorem NoticeLaw.journalEntryOver (h : NoticeLaw s) (b : Bool) : NoticeLaw (journalEntryOver b s) := by
  unfold Machine.journalEntryOver
  split
  · exact h.endJournalEntry _ _ _
  · exact h

theorem NoticeLaw.journalItemRead (h : NoticeLaw s) (i : Fin 256) (w b : Bool) :
    NoticeLaw (journalItemRead i w b s) := by
  unfold Machine.journalItemRead
  refine .ite ?_ ?_
  · split
    · exact .ite (h.of_kept (Kept.loadItem _ _ _ _ _)) h
    · exact h
  · dsimp only
    split
    · exact .ite ((h.setStore _).of_kept (Kept.askNext _ _)) (h.setStore _)
    · exact h.setStore _

theorem NoticeLaw.hireItemRead (h : NoticeLaw s) (i : Fin 8) (w b : Bool) :
    NoticeLaw (hireItemRead i w b s) := by
  have hread : NoticeLaw (if b then s
      else s.setStore { s.store with history := s.store.history.set i none }) := .ite h (h.setStore _)
  unfold Machine.hireItemRead
  dsimp only
  split
  · exact .ite (.ite (hread.of_kept (Kept.loadItem _ _ _ _ _)) (hread.of_kept (Kept.recordMissing _))) hread
  · exact .ite (hread.of_kept (Kept.recordMissing _)) hread
  · exact hread

theorem NoticeLaw.itemOver (h : NoticeLaw s) (b : Bool) : NoticeLaw (itemOver b s) := by
  unfold Machine.itemOver
  split
  · exact ((h.setStore _).journalItemRead _ _ _).grantPort
  · exact ((h.setStore _).hireItemRead _ _ _).grantPort
  · exact h

theorem NoticeLaw.assertWarning (h : NoticeLaw s) : NoticeLaw (assertWarning s) :=
  .ite (h.setStore _).stopPark.grantPort h

theorem NoticeLaw.deassertWarning (h : NoticeLaw s) : NoticeLaw (deassertWarning s) :=
  .ite (.ite ((h.setStore _).checkpointTrigger _) (h.setStore _).grantPort) h

/-! ## The input unit (R25 to R39) -/

theorem NoticeLaw.lineTakes (h : NoticeLaw s) (l : SenseLine) (b : Bool) : NoticeLaw (lineTakes l b s) :=
  h.setInputs _

theorem NoticeLaw.shaftTakes (h : NoticeLaw s) (l : ShaftLine) (b : Bool) : NoticeLaw (shaftTakes l b s) :=
  h.setInputs _

theorem NoticeLaw.handLine (h : NoticeLaw s) (l : SenseLine) (b : Bool) (t : Nat) :
    NoticeLaw (handLine l b t s) := by
  cases l with
  | ignition | crank | clutchPedal => exact h.inputReport _ _ _ _
  | powerWarning => exact .ite h.assertWarning h.deassertWarning

theorem NoticeLaw.lineHeld (h : NoticeLaw s) (l : SenseLine) : NoticeLaw (lineHeld l s) := by
  unfold Machine.lineHeld
  split
  · exact (h.setInputs _).handLine _ _ _
  · exact h

theorem NoticeLaw.setShaft (h : NoticeLaw s) (u : ShaftUnit) : NoticeLaw (s.setShaft u) := h.setInputs _

theorem NoticeLaw.setShaftSpeed (h : NoticeLaw s) (v t : Nat) : NoticeLaw (setShaftSpeed v t s) :=
  .ite (((h.setShaft _).setShaft _).inputReport _ _ _ _) (h.setShaft _)

theorem NoticeLaw.breakChain (h : NoticeLaw s) (t : Nat) : NoticeLaw (breakChain t s) :=
  (h.setShaft _).setShaftSpeed _ _

theorem NoticeLaw.changeDirection (h : NoticeLaw s) (t : Nat) : NoticeLaw (changeDirection t s) :=
  (NoticeLaw.ite (h.deliver _) h).breakChain t

theorem NoticeLaw.countedEdge (h : NoticeLaw s) (d : Direction) (t : Nat) : NoticeLaw (countedEdge d t s) := by
  unfold Machine.countedEdge
  dsimp only
  split
  · exact (NoticeLaw.ite h (h.changeDirection t)).setShaft _
  · exact h.setShaft _

theorem NoticeLaw.testShock (h : NoticeLaw s) (p : Option Nat) (q t : Nat) : NoticeLaw (testShock p q t s) := by
  unfold Machine.testShock
  split
  · exact h
  · exact .ite ((h.setShaft _).deliver _) h

theorem NoticeLaw.risingEdgeOfA (h : NoticeLaw s) (t : Nat) : NoticeLaw (risingEdgeOfA t s) := by
  have htimed := fun u => h.setShaft u
  unfold Machine.risingEdgeOfA
  dsimp only
  split
  · exact (htimed _).setShaft _
  · exact (((htimed _).setShaft _).setShaftSpeed _ _).testShock _ _ _

theorem NoticeLaw.acceptedEdge (h : NoticeLaw s) (l : ShaftLine) (b : Bool) (t : Nat) :
    NoticeLaw (acceptedEdge l b t s) := by
  have hcounted := fun d => NoticeLaw.ite (c := isCounted s.profile.encodingCode l b = true)
    (h.countedEdge d t) h
  exact .ite ((hcounted _).risingEdgeOfA t) (hcounted _)

theorem NoticeLaw.edgeHeld (h : NoticeLaw s) (l : ShaftLine) : NoticeLaw (edgeHeld l s) := by
  unfold Machine.edgeHeld
  split
  · exact (h.setShaft _).acceptedEdge _ _ _
  · exact h

theorem NoticeLaw.shaftSilent (h : NoticeLaw s) : NoticeLaw (shaftSilent s) := (h.setShaft _).breakChain _

/-! ## STARTING, the commands and the step -/

/-- STARTING may load another profile; it ends with the first choice under that profile (R149). -/
theorem NoticeLaw.finishStarting (h : NoticeLaw s) (m : MemoryAnswer) : NoticeLaw (finishStarting m s) :=
  .ite (noticeLaw_firstChoice _) h

theorem NoticeLaw.secondPassed (h : NoticeLaw s) : NoticeLaw (secondPassed s) := h.setControl rfl

/-- A level changes in a part held in reset too (R27, R32). -/
theorem NoticeLaw.levelChange {t : State} {dt : Nat} {f : State → State} (h : NoticeLaw s)
    (he : (if s.control.powered then Machine.event dt f s else .next (f (s.advance dt))) = .next t)
    (hf : ∀ u, NoticeLaw u → NoticeLaw (f u)) : NoticeLaw t := by
  split at he
  · exact h.event he hf
  · cases he
    exact hf _ (h.setClock _)

/-- Every command keeps the law. -/
theorem NoticeLaw.exec {t : State} (h : NoticeLaw s) (c : Instr) (he : exec c s = .next t) : NoticeLaw t := by
  cases c with
  | startUp dt => cases he; exact (noticeLaw_resetWorking _ _).setFree _
  | supplyLoss dt => cases he; exact (noticeLaw_holdInReset _).setFree _
  | startingEnd dt mem => exact h.event he fun _ hu => hu.finishStarting mem
  | busJoin dt => exact h.event he fun _ hu => hu.joinBus
  | frameReceived dt f => exact h.event he fun _ hu => hu.receiveFrame f
  | receiveError dt b => exact h.event he fun _ hu => hu.receiveError b
  | decodeComplete dt => exact h.event he fun _ hu => hu.completeDecode
  | freshnessExpiry sig rank => exact h.expiry he fun _ hu => hu.expireOrigin sig rank
  | slotHoldExpiry sig => exact h.expiry he fun _ hu => hu.holdOver sig
  | lineChange dt line high => exact h.levelChange he fun _ hu => hu.lineTakes line high
  | lineQualified line => exact h.expiry he fun _ hu => hu.lineHeld line
  | shaftEdgeCandidate dt line high => exact h.levelChange he fun _ hu => hu.shaftTakes line high
  | shaftEdgeAccepted line => exact h.expiry he fun _ hu => hu.edgeHeld line
  | speedTimeout => exact h.expiry he fun _ hu => hu.shaftSilent
  | shockHoldoffExpiry => exact h.expiry he fun _ hu => hu.setShaft _
  | tallyTick => exact h.expiry he fun _ hu => hu.tickOver
  | passComplete dt => exact h.event he fun _ hu => hu.passOver
  | stepComplete dt => exact h.event he fun _ hu => hu.stepOver
  | longCrankExpiry => exact h.expiry he fun _ hu => hu.longCrankOver
  | wakeByBus dt => exact h.event he fun _ hu => hu.wakeByBus
  | parkTimerExpiry => exact h.expiry he fun _ hu => hu.parkDue
  | partSecondsTick => exact h.expiry he fun _ hu => hu.secondPassed
  | checkpointSnapshot dt => exact h.event he fun _ hu => hu.snapshotDue
  | checkpointWriteDone dt b => exact h.event he fun _ hu => hu.checkpointOver b
  | hireRecordWriteDone dt b => exact h.event he fun _ hu => hu.hireRecordOver b
  | journalEntryWriteDone dt b => exact h.event he fun _ hu => hu.journalEntryOver b
  | streamItemRead dt b => exact h.event he fun _ hu => hu.itemOver b
  | status dt | readCounter dt | readSource dt | readJournal dt | readHire dt | serviceDone dt
  | abortStream dt | restart dt | unknownRequest dt | checkOut dt | checkIn dt | hireControlUnknown dt
  | hold dt | summaryPageRequest dt | shortFrameDiscard dt => exact h.event he fun _ hu => hu.serveRow _
  | holdExpiry => exact h.expiry he fun _ hu => hu.setServer _
  | pageTimerExpiry => exact h.expiry he fun _ hu => hu.pageTimerOver
  | streamGapExpiry => exact h.expiry he fun _ hu => hu
  | transmitSuccess dt => exact h.event he fun _ hu => hu.sendSucceeds
  | lostArbitration dt => exact h.event he fun _ hu => hu.arbitrationLost
  | transmitError dt b => exact h.event he fun _ hu => hu.transmitError b
  | busOffRecovery dt => exact h.event he fun _ hu => hu.recoverLink
  | recoveryCountRun dt => exact h.event he fun _ hu => hu.countRun
  | pulseTimerExpiry src => exact h.expiry he fun _ hu => hu.pulseOver src
  | dwellExpiry => exact h.expiry he fun _ hu => hu.endDwell
  | noticeRepeatExpiry => exact h.expiry he fun _ hu => hu.queueNotice
  | restartWaitTimeout => exact h.expiry he fun _ hu => hu.answerOver

theorem NoticeLaw.step {t : State} (h : NoticeLaw s) (he : step s = .next t) : NoticeLaw t := by
  unfold Machine.step at he
  split at he
  · cases he
    exact h
  · exact (h.setPending _).exec _ he

/-- LAMP is off wherever the part is not awake (R147, R149). -/
theorem NoticeLaw.lamp_off (h : NoticeLaw s) (hmode : s.control.mode = .starting ∨ s.control.mode = .parked) :
    s.notices.lamp = false := by
  obtain ⟨_, _, hlamp⟩ := h
  have hasleep : s.awake = false := by
    unfold State.awake
    rcases hmode with e | e <;> rw [e] <;> rfl
  rw [hlamp, hasleep, Bool.false_and]

end

theorem noticeLaw_reset : NoticeLaw State.reset := ⟨fun _ h => (nomatch h), fun _ => rfl, rfl⟩

/-- Settles O12: the law holds at reset, every command keeps it, and under the default levels LAMP is lit by all
sources but a long crank (2) and the five due members (9 to 13). -/
theorem presentedNoticeStaysAboveMask : Obligations.PresentedNoticeStaysAboveMask :=
  ⟨noticeLaw_reset, fun _ _ h he => ⟨h.step he, (h.step he).lamp_off⟩, by decide⟩

end Sys2Proof.Machine
